-- ==== Sys2Proof/Word.lean ====
section
/-! DEFINITION. The word types of SDMMC-TE (00_scope.md R7, R9) and their plainest arithmetic. -/

namespace Sys2Proof

/-- A register word, `REG_W = 32` bits (R7). -/
abbrev Word := BitVec 32

/-- One half of a masked register word, `MASK_W = 16` bits (R7, R123). -/
abbrev Half := BitVec 16

/-- A byte of memory or of the SD bus. -/
abbrev Byte := BitVec 8

/-- The word whose low `n` bits are 1 (all of them when `n >= 32`). -/
def lowMask (n : Nat) : Word := BitVec.ofNat 32 (2 ^ min n 32 - 1)

end Sys2Proof
end

