-- ==== Sys2Proof/Config.lean ====
section
/-! DEFINITION. The implementation parameters of 00_scope.md R7 and the free values of 93_implementation_defined.md.
The parameters are a plain record, `Cfg`, that `State` carries and no step changes (entry 4). The parameters the spec
leaves OPEN are opaque constants, so that nothing can be proved of their values. -/

namespace Sys2Proof

/-- The Host's data-path mode (R7 `PATH`, R40). -/
inductive PathMode where
  | pio
  | dma
deriving DecidableEq, Repr, Inhabited

/-- The code of a data path (30_encoding.md R138). -/
def PathMode.code : PathMode → Nat
  | .pio => 0
  | .dma => 1

/-- The Host's current mode (R7 `MODE`, R40). -/
inductive HostMode where
  | sd
  | sdio
  | emmc
deriving DecidableEq, Repr, Inhabited

/-- The code of a Host mode (30_encoding.md R138). -/
def HostMode.code : HostMode → Nat
  | .sd => 0
  | .sdio => 1
  | .emmc => 2

/-- What a path other than the 136-bit one records when a wait failed with a clear error state
(R7 `TIMEOUT_NO_ERRBIT`, 47_error_classifier_tuner.md R348). -/
inductive TimeoutPolicy where
  | waitTimeout
  | success
deriving DecidableEq, Repr, Inhabited

/-- What a failed wait inside the PIO pump ends (R7 `PIO_ABORT_SCOPE`, 44_pio_engine.md R253). -/
inductive AbortScope where
  | segment
  | transfer
deriving DecidableEq, Repr, Inhabited

/-- The five delays of the Tuning State, in the source's order (10_state.md R45). -/
inductive DelayName where
  | rdCrc
  | rdDat
  | rdRsp
  | wrCmd
  | wrDat
deriving DecidableEq, Repr, Inhabited

/-- One point of `CLKDIV_OF`: the divider for a source clock rate and a requested rate (R7). -/
structure ClkDivPoint where
  srcClk : Word
  rate : Word
  div : BitVec 12
deriving DecidableEq, Repr

/-- One point of `DEFAULT_DELAYS`: a delay for a timing mode and a divider (R7). -/
structure DelayPoint where
  delay : DelayName
  mode : Byte
  div : BitVec 12
  value : BitVec 3
deriving DecidableEq, Repr

/-- One register that does not stand at its offset of 30_encoding.md R121: that offset, which names it, and where it
stands (R7 `OFF_<reg>`). -/
structure MovedReg where
  ref : Nat
  off : Nat
deriving DecidableEq, Repr

/-- The implementation parameters of R7. `REG_W` and `MASK_W` are fixed and stand in the types. The parameters that are
functions are written as the finite lists of points at which they differ from their defaults, which reaches every
function of words (entry 4). -/
structure Cfg where
  /-- `BASE`, a multiple of 4: what `host.base` is at reset -/
  base : Word
  /-- `OFF_<reg>`: the registers that do not stand at the offsets of 30_encoding.md R121 -/
  moved : List MovedReg
  /-- `USE_INT_OF`: the clock rates at which it differs from its default `clock <= HS_CLOCK` -/
  useIntFlips : List Word
  /-- `CLKDIV_OF`: the points at which it differs from the opaque default -/
  clkDivs : List ClkDivPoint
  /-- `DEFAULT_DELAYS`: the points at which it differs from the opaque default -/
  delays : List DelayPoint
  /-- `ADDR_W`, 1 to 32 -/
  addrW : Nat
  /-- `MAX_SEG`, at least 1; the opcode table has keys for the first eight slots (entry 5) -/
  maxSeg : Nat
  /-- `SECTOR_SIZE`, a power of two -/
  sectorSize : Nat
  /-- `BLKSIZE_W`, 1 to 32 -/
  blksizeW : Nat
  /-- `BLKCNT_W`, 1 to 32 -/
  blkcntW : Nat
  /-- `DLY_W`, 1 to 3 -/
  dlyW : Nat
  /-- `WAIT_TIMEOUT`, positive -/
  waitTimeout : Nat
  /-- `SETTLE_DELAY` -/
  settleDelay : Nat
  /-- `DMA_INT_THRESHOLD`, in bytes -/
  dmaIntThreshold : Nat
  /-- `MAX_RETRIES`, greater than 1 -/
  maxRetries : Nat
  /-- `NORMAL_RETRIES`, fixed at 1 -/
  normalRetries : Nat
  /-- `LOW_SPEED_DIV` -/
  lowSpeedDiv : BitVec 12
  /-- `HS_CLOCK`, positive -/
  hsClock : Nat
  /-- `CRC_TOKEN_WRITE_ERR` -/
  crcTokenWriteErr : BitVec 3
  /-- `IRQ_ON_ERROR` -/
  irqOnError : Bool
  /-- `TIMEOUT_NO_ERRBIT` -/
  timeoutNoErrbit : TimeoutPolicy
  /-- `PATH` -/
  path : PathMode
  /-- `MODE` -/
  mode : HostMode
  /-- `LEN_MODE_NO_AUTOSTOP` -/
  lenModeNoAutostop : Bool
  /-- `PIO_ABORT_SCOPE` -/
  pioAbortScope : AbortScope
deriving DecidableEq, Repr

/-- The offsets of 30_encoding.md R121, which name the registers. -/
def refOffsets : List Nat :=
  [0x00, 0x04, 0x08, 0x0C, 0x10, 0x14, 0x18, 0x1C, 0x20, 0x24, 0x28, 0x2C, 0x30, 0x34, 0x38,
   0x40, 0x44, 0x48, 0x4C, 0x50, 0x54, 0x58, 0x5C, 0x60, 0x64, 0x68, 0x6C, 0x70, 0x74, 0x78, 0x7C]

/-- `OFF_<reg>` of the register that R121 puts at `ref` (R7). -/
def offsetIn : List MovedReg → Nat → Nat
  | [], ref => ref
  | m :: ms, ref => if m.ref = ref then m.off else offsetIn ms ref

/-- The register at a bus offset, named by its offset of R121; none where no register stands. -/
def Cfg.refAt (c : Cfg) (off : Nat) : Option Nat := refOffsets.find? fun ref => offsetIn c.moved ref == off

/-- The legal ranges of R7 (93_implementation_defined.md X11). The offsets fit the eight offset bits of an `MMIO` key
(30_encoding.md R141). -/
def Cfg.legal (c : Cfg) : Bool :=
  c.base.extractLsb' 0 2 == 0#2 &&
  (refOffsets.map (offsetIn c.moved)).all (fun off => off % 4 == 0 && decide (off < 256)) &&
  decide (refOffsets.map (offsetIn c.moved)).Nodup &&
  decide (1 ≤ c.addrW) && decide (c.addrW ≤ 32) &&
  decide (1 ≤ c.maxSeg) &&
  decide (2 ^ c.sectorSize.log2 = c.sectorSize) &&
  decide (1 ≤ c.blksizeW) && decide (c.blksizeW ≤ 32) &&
  decide (1 ≤ c.blkcntW) && decide (c.blkcntW ≤ 32) &&
  decide (1 ≤ c.dlyW) && decide (c.dlyW ≤ 3) &&
  decide (1 ≤ c.waitTimeout) && decide (1 < c.maxRetries) && decide (c.normalRetries = 1) &&
  decide (1 ≤ c.hsClock)

/-! ### Parameters the spec leaves OPEN -/

/-- `WAIT_TIMEOUT` less one, OPEN ("on the order of seconds"). -/
opaque Config.waitTimeoutLessOne : Nat
/-- `SETTLE_DELAY`, OPEN. -/
opaque Config.settleDelay : Nat
/-- `DMA_INT_THRESHOLD`, OPEN. -/
opaque Config.dmaIntThreshold : Nat
/-- `MAX_RETRIES` less two, OPEN. -/
opaque Config.maxRetriesLessTwo : Nat
/-- `LOW_SPEED_DIV`, OPEN. -/
opaque Config.lowSpeedDiv : BitVec 12
/-- `HS_CLOCK` less one, OPEN. -/
opaque Config.hsClockLessOne : Nat
/-- `PATH`, OPEN. -/
opaque Config.path : PathMode
/-- `MODE`, OPEN. -/
opaque Config.mode : HostMode
/-- `BASE` divided by 4: the platform's. -/
opaque Config.baseWords : BitVec 30
/-- The rate of the platform's clock source at attach (R409). -/
opaque Config.srcClk : Word
/-- The default of `CLKDIV_OF`: from (source clock rate, requested clock) to the divider, OPEN. -/
opaque Config.clkDivOf : Word → Word → BitVec 12
/-- The default of `DEFAULT_DELAYS`: from (timing mode, clock divider) to each of the five delays, OPEN. -/
opaque Config.defaultDelay : DelayName → Byte → BitVec 12 → BitVec 3

/-- The configuration of the machine that `State.reset` describes: the spec's defaults, and the opaque constants where
the spec says OPEN (entry 4). -/
def Config.reference : Cfg where
  base := Config.baseWords ++ 0#2
  moved := []
  useIntFlips := []
  clkDivs := []
  delays := []
  addrW := 32
  maxSeg := 8
  sectorSize := 512
  blksizeW := 16
  blkcntW := 16
  dlyW := 3
  waitTimeout := Config.waitTimeoutLessOne + 1
  settleDelay := Config.settleDelay
  dmaIntThreshold := Config.dmaIntThreshold
  maxRetries := Config.maxRetriesLessTwo + 2
  normalRetries := 1
  lowSpeedDiv := Config.lowSpeedDiv
  hsClock := Config.hsClockLessOne + 1
  crcTokenWriteErr := 0b101#3
  irqOnError := true
  timeoutNoErrbit := .waitTimeout
  path := Config.path
  mode := Config.mode
  lenModeNoAutostop := true
  pioAbortScope := .segment

/-- `USE_INT_OF`: its default `clock <= HS_CLOCK`, turned round at the listed rates (R7,
49_host_and_bus_interfaces.md R401). -/
def Cfg.useIntOf (c : Cfg) (rate : Word) : Bool := decide (rate.toNat ≤ c.hsClock) != c.useIntFlips.contains rate

/-- `CLKDIV_OF` (R7, 49_host_and_bus_interfaces.md R401). -/
def Cfg.clkDivOf (c : Cfg) (srcClk rate : Word) : BitVec 12 :=
  match c.clkDivs.find? fun p => p.srcClk == srcClk && p.rate == rate with
  | some p => p.div
  | none => Config.clkDivOf srcClk rate

/-- `DEFAULT_DELAYS` (R7, 49_host_and_bus_interfaces.md R402). -/
def Cfg.delayOf (c : Cfg) (x : DelayName) (mode : Byte) (div : BitVec 12) : BitVec 3 :=
  match c.delays.find? fun p => p.delay == x && p.mode == mode && p.div == div with
  | some p => p.value
  | none => Config.defaultDelay x mode div

/-! ### Free values (entry 9): each is applied to the counter `State.draws` -/

/-- A word whose value the spec leaves open (U4, U5). -/
opaque Config.freeWord : Nat → Word
/-- A byte whose value the spec leaves open (U6, U10). -/
opaque Config.freeByte : Nat → Byte
/-- A CRC token whose value the spec leaves open (U8). -/
opaque Config.freeToken : Nat → BitVec 3
/-- An answer of the platform (U12). -/
opaque Config.freeBool : Nat → Bool

end Sys2Proof
end

