-- ==== Sys2Proof/Syntax.lean ====
section
/-! DEFINITION. The operands and the operation set of SDMMC-TE: one constructor of `Instr` per row of
spec/opcode_table.json (00_scope.md R3, 30_encoding.md R139 to R141), and the Request records of 10_state.md R41 to R44. -/

namespace Sys2Proof

/-- The formats an operation can arrive in (30_encoding.md R120): a register-bus access, a dispatch key, or an
operation id. -/
inductive Format where
  | mmio
  | req
  | seq
deriving DecidableEq, Repr

/-! ### Requests -/

/-- The error kinds (60_exceptions.md R450); their numbers are `ErrorCode.code`. -/
inductive ErrorCode where
  | none
  | rspTimeout
  | rspCrc7
  | stbTimeout
  | rdataCrc16
  | cardCrcTimeout
  | crcToken
  | dmaMap
  | waitTimeout
deriving DecidableEq, Repr

/-- The number of an error kind (R450). -/
def ErrorCode.code : ErrorCode → Nat
  | .none => 0
  | .rspTimeout => 1
  | .rspCrc7 => 2
  | .stbTimeout => 3
  | .rdataCrc16 => 4
  | .cardCrcTimeout => 5
  | .crcToken => 6
  | .dmaMap => 7
  | .waitTimeout => 8

/-- The expected response shape of a Command (10_state.md R42; codes 30_encoding.md R138). -/
inductive RspShape where
  | none
  | r48
  | r136
  | r48b
deriving DecidableEq, Repr

/-- The code of a response shape (R138). -/
def RspShape.code : RspShape → Nat
  | .none => 0
  | .r48 => 1
  | .r136 => 2
  | .r48b => 3

/-- The direction of a data phase (10_state.md R43): `rd` is card to host. -/
inductive Dir where
  | rd
  | wr
deriving DecidableEq, Repr

/-- The code of a direction (R138). -/
def Dir.code : Dir → Nat
  | .rd => 0
  | .wr => 1

/-- A Command (10_state.md R42). `opcode` is wide enough to write down the ill-formed values above 63. A response word
that no decoder wrote holds no value. -/
structure Command where
  opcode : Byte
  arg : Word
  rsp : RspShape
  resp0 : Option Word
  resp1 : Option Word
  resp2 : Option Word
  resp3 : Option Word
  error : ErrorCode
  retries : Nat
deriving DecidableEq, Repr

/-- One segment `(buf, len)` of a scatter list (10_state.md R44). -/
structure Segment where
  buf : Word
  len : Nat
deriving DecidableEq, Repr

/-- A Data Descriptor (10_state.md R43). -/
structure DataDesc where
  dir : Dir
  blksz : Nat
  blocks : Nat
  sg : List Segment
  error : ErrorCode
  bytesXfered : Nat
deriving DecidableEq, Repr

/-- The transfer size in bytes, a natural number (43_data_path_configurator.md R229). -/
def DataDesc.size (d : DataDesc) : Nat := d.blksz * d.blocks

/-- A Request (10_state.md R41). -/
structure Request where
  cmd : Command
  data : Option DataDesc
  stop : Option Command
deriving DecidableEq, Repr

/-! ### Register names (30_encoding.md R121) -/

/-- The plain registers. `dmaBase 0` and `dmaSize 0` are `DMA_BASE0` and `DMA_SIZE0`. -/
inductive PlainReg where
  | cmdbuf
  | cmdargLo
  | rspbufHi
  | rspbufLo
  | state
  | status
  | blksize
  | blkcnt
  | dataTx
  | dataRx
  | dmaBase (k : Nat)
  | dmaSize (k : Nat)
deriving DecidableEq, Repr

/-- The masked registers (R123). -/
inductive MaskedReg where
  | config
  | ctrl
  | int
  | timing
  | clkcfg
deriving DecidableEq, Repr

/-- A register of the block. -/
inductive Reg where
  | plain (r : PlainReg)
  | masked (m : MaskedReg)
deriving DecidableEq, Repr

/-- The byte offset of a register from `host.base` (R121). -/
def Reg.offset : Reg → Nat
  | .plain .cmdbuf => 0x00
  | .plain .cmdargLo => 0x04
  | .plain .rspbufHi => 0x08
  | .plain .rspbufLo => 0x0C
  | .masked .config => 0x10
  | .masked .ctrl => 0x14
  | .masked .int => 0x18
  | .plain .state => 0x1C
  | .plain .status => 0x20
  | .masked .timing => 0x24
  | .masked .clkcfg => 0x28
  | .plain .blksize => 0x2C
  | .plain .blkcnt => 0x30
  | .plain .dataTx => 0x34
  | .plain .dataRx => 0x38
  | .plain (.dmaBase k) => 0x40 + 8 * k
  | .plain (.dmaSize k) => 0x44 + 8 * k

/-! ### Other operands -/

/-- Which Command of the outstanding Request an operation works on: `req.cmd` or `req.stop`. -/
inductive CmdSel where
  | primary
  | stop
deriving DecidableEq, Repr

/-- The waiting state `TRIGGER` enters (45_transaction_controller.md R279). -/
inductive WaitSel where
  | poll
  | interrupt
deriving DecidableEq, Repr

/-- A one-bit field of `STATE` or `STATUS`, the operand of `WAIT_UNTIL` (46_bounded_waits.md R310). -/
inductive StatusBit where
  | finished
  | error
  | rspTimeout
  | rspCrc7Err
  | stbTimeout
  | rdataCrc16Err
  | cardCrcTimeout
  | crcTokenErr
  | rspBufFull
  | txBufEmpty
  | rxBufFull
deriving DecidableEq, Repr

/-- The oracle's answer to a response phase (49_host_and_bus_interfaces.md R421). -/
inductive RspAnswer where
  | nothing
  | bytes (bs : List Byte) (crcOk : Bool)
deriving DecidableEq, Repr

/-- The oracle's answer to a step of the DMA data phase (R424): the bytes read, how many bytes are taken for a write,
or a failure. -/
inductive DmaAnswer where
  | read (bs : List Byte)
  | take (n : Nat)
  | fail
deriving DecidableEq, Repr

/-- The oracle's answer to a step of the PIO data phase (R423): the next four bytes in bus order, a word taken, or a
failure. -/
inductive PioAnswer where
  | read (y0 y1 y2 y3 : Byte)
  | take
  | fail
deriving DecidableEq, Repr

/-- The end of a triggered transaction (R428): clean, or in error with the set `E` of `STATUS` bits 5:0, the token, and
the value drawn for `STATE.FINISHED` (U7). -/
inductive EndAnswer where
  | ok
  | err (status : BitVec 6) (token : BitVec 3) (finished : Bool)
deriving DecidableEq, Repr

/-- The rows of format `REQ` (30_encoding.md R139). -/
inductive PathRow where
  | r136
  | dataPio
  | dataDmaIrqCmd
  | dataDmaIrqThr
  | dataDmaPoll
  | nodataIrq
  | nodataPoll
deriving DecidableEq, Repr

/-! ### The operation set -/

/-- The operations of SDMMC-TE, one constructor per row of spec/opcode_table.json, in the table's order. -/
inductive Instr where
  /-- `RD.CMDBUF`: R22 -/
  | rdCmdbuf
  /-- `WR.CMDBUF`: R22 -/
  | wrCmdbuf (w : Word)
  /-- `RD.CMDARG_LO`: R23 -/
  | rdCmdargLo
  /-- `WR.CMDARG_LO`: R23 -/
  | wrCmdargLo (w : Word)
  /-- `RD.RSPBUF_HI`: R24 -/
  | rdRspbufHi
  /-- `WR.RSPBUF_HI`: R24 -/
  | wrRspbufHi (w : Word)
  /-- `RD.RSPBUF_LO`: R25 -/
  | rdRspbufLo
  /-- `WR.RSPBUF_LO`: R25 -/
  | wrRspbufLo (w : Word)
  /-- `RD.CONFIG`: R26 -/
  | rdConfig
  /-- `WR.CONFIG`: R26 -/
  | wrConfig (w : Word)
  /-- `RD.CTRL`: R27 -/
  | rdCtrl
  /-- `WR.CTRL`: R27 -/
  | wrCtrl (w : Word)
  /-- `RD.INT`: R28 -/
  | rdInt
  /-- `WR.INT`: R28 -/
  | wrInt (w : Word)
  /-- `RD.STATE`: R29 -/
  | rdState
  /-- `WR.STATE`: R29 -/
  | wrState (w : Word)
  /-- `RD.STATUS`: R30 -/
  | rdStatus
  /-- `WR.STATUS`: R30 -/
  | wrStatus (w : Word)
  /-- `RD.TIMING`: R31 -/
  | rdTiming
  /-- `WR.TIMING`: R31 -/
  | wrTiming (w : Word)
  /-- `RD.CLKCFG`: R32 -/
  | rdClkcfg
  /-- `WR.CLKCFG`: R32 -/
  | wrClkcfg (w : Word)
  /-- `RD.BLKSIZE`: R33 -/
  | rdBlksize
  /-- `WR.BLKSIZE`: R33 -/
  | wrBlksize (w : Word)
  /-- `RD.BLKCNT`: R34 -/
  | rdBlkcnt
  /-- `WR.BLKCNT`: R34 -/
  | wrBlkcnt (w : Word)
  /-- `RD.DATA_TX`: R35 -/
  | rdDataTx
  /-- `WR.DATA_TX`: R35 -/
  | wrDataTx (w : Word)
  /-- `RD.DATA_RX`: R36 -/
  | rdDataRx
  /-- `WR.DATA_RX`: R36 -/
  | wrDataRx (w : Word)
  /-- `RD.DMA_BASE0`: R37 -/
  | rdDmaBase0
  /-- `WR.DMA_BASE0`: R37 -/
  | wrDmaBase0 (w : Word)
  /-- `RD.DMA_SIZE0`: R37 -/
  | rdDmaSize0
  /-- `WR.DMA_SIZE0`: R37 -/
  | wrDmaSize0 (w : Word)
  /-- `RD.DMA_BASE[1]`: R38 -/
  | rdDmaBase1
  /-- `WR.DMA_BASE[1]`: R38 -/
  | wrDmaBase1 (w : Word)
  /-- `RD.DMA_SIZE[1]`: R38 -/
  | rdDmaSize1
  /-- `WR.DMA_SIZE[1]`: R38 -/
  | wrDmaSize1 (w : Word)
  /-- `RD.DMA_BASE[2]`: R38 -/
  | rdDmaBase2
  /-- `WR.DMA_BASE[2]`: R38 -/
  | wrDmaBase2 (w : Word)
  /-- `RD.DMA_SIZE[2]`: R38 -/
  | rdDmaSize2
  /-- `WR.DMA_SIZE[2]`: R38 -/
  | wrDmaSize2 (w : Word)
  /-- `RD.DMA_BASE[3]`: R38 -/
  | rdDmaBase3
  /-- `WR.DMA_BASE[3]`: R38 -/
  | wrDmaBase3 (w : Word)
  /-- `RD.DMA_SIZE[3]`: R38 -/
  | rdDmaSize3
  /-- `WR.DMA_SIZE[3]`: R38 -/
  | wrDmaSize3 (w : Word)
  /-- `RD.DMA_BASE[4]`: R38 -/
  | rdDmaBase4
  /-- `WR.DMA_BASE[4]`: R38 -/
  | wrDmaBase4 (w : Word)
  /-- `RD.DMA_SIZE[4]`: R38 -/
  | rdDmaSize4
  /-- `WR.DMA_SIZE[4]`: R38 -/
  | wrDmaSize4 (w : Word)
  /-- `RD.DMA_BASE[5]`: R38 -/
  | rdDmaBase5
  /-- `WR.DMA_BASE[5]`: R38 -/
  | wrDmaBase5 (w : Word)
  /-- `RD.DMA_SIZE[5]`: R38 -/
  | rdDmaSize5
  /-- `WR.DMA_SIZE[5]`: R38 -/
  | wrDmaSize5 (w : Word)
  /-- `RD.DMA_BASE[6]`: R38 -/
  | rdDmaBase6
  /-- `WR.DMA_BASE[6]`: R38 -/
  | wrDmaBase6 (w : Word)
  /-- `RD.DMA_SIZE[6]`: R38 -/
  | rdDmaSize6
  /-- `WR.DMA_SIZE[6]`: R38 -/
  | wrDmaSize6 (w : Word)
  /-- `RD.DMA_BASE[7]`: R38 -/
  | rdDmaBase7
  /-- `WR.DMA_BASE[7]`: R38 -/
  | wrDmaBase7 (w : Word)
  /-- `RD.DMA_SIZE[7]`: R38 -/
  | rdDmaSize7
  /-- `WR.DMA_SIZE[7]`: R38 -/
  | wrDmaSize7 (w : Word)
  /-- `SUBMIT.R136` (key mask 0x70 match 0x40): R272 -/
  | submitR136 (k : BitVec 7)
  /-- `SUBMIT.DATA_PIO` (key mask 0x14 match 0x10): R273 -/
  | submitDataPio (k : BitVec 7)
  /-- `SUBMIT.DATA_DMA_IRQ` (key mask 0x16 match 0x16): R275 -/
  | submitDataDmaIrqCmd (k : BitVec 7)
  /-- `SUBMIT.DATA_DMA_IRQ` (key mask 0x17 match 0x15): R275 -/
  | submitDataDmaIrqThr (k : BitVec 7)
  /-- `SUBMIT.DATA_DMA_POLL` (key mask 0x17 match 0x14): R274 -/
  | submitDataDmaPoll (k : BitVec 7)
  /-- `SUBMIT.NODATA_IRQ` (key mask 0x12 match 0x2): R277 -/
  | submitNodataIrq (k : BitVec 7)
  /-- `SUBMIT.NODATA_POLL` (key mask 0x12 match 0x0): R276 -/
  | submitNodataPoll (k : BitVec 7)
  /-- `FIELD_GET`: R160 -/
  | fieldGet (w : Word) (lo : Byte) (n : Byte)
  /-- `FIELD_SET`: R161 -/
  | fieldSet (w : Word) (lo : Byte) (n : Byte) (v : Word)
  /-- `REG_RD`: R162 -/
  | regRd (r : Reg)
  /-- `REG_WR`: R163 -/
  | regWr (r : PlainReg) (w : Word)
  /-- `REG_WR_MASKED`: R164 -/
  | regWrMasked (m : MaskedReg) (w : Word)
  /-- `CMD_ENCODE`: R180 -/
  | cmdEncode (opcode : Byte) (arg : Word) (rsp : RspShape) (hasData : Bool)
  /-- `RSP_NONE`: R204 -/
  | rspNone (c : CmdSel)
  /-- `RSP_GET48`: R201 -/
  | rspGet48 (c : CmdSel)
  /-- `RSP_GET136`: R202 -/
  | rspGet136 (c : CmdSel)
  /-- `DATA_CFG`: R220 -/
  | dataCfg
  /-- `DATA_CFG_DMA`: R226 -/
  | dataCfgDma
  /-- `DATA_CFG_PIO`: R230 -/
  | dataCfgPio
  /-- `PIO_XFER`: R250 -/
  | pioXfer
  /-- `PIO_WR_WORD`: R251 -/
  | pioWrWord (buf : Word) (off : Nat)
  /-- `PIO_RD_WORD`: R252 -/
  | pioRdWord (buf : Word) (off : Nat)
  /-- `SUBMIT`: R271 -/
  | submit (req : Request)
  /-- `FINISH_MAPFAIL`: R278 -/
  | finishMapfail
  /-- `TRIGGER`: R279 -/
  | trigger (v : WaitSel)
  /-- `FINISH`: R280 -/
  | finish
  /-- `STOP_ISSUE`: R282 -/
  | stopIssue
  /-- `NOTIFY`: R283 -/
  | notify (req : Request)
  /-- `WAIT_UNTIL`: R310 -/
  | waitUntil (b : StatusBit)
  /-- `WAIT_FINISH`: R311 -/
  | waitFinish
  /-- `WAIT_RSP_FULL`: R312 -/
  | waitRspFull
  /-- `WAIT_TX_EMPTY`: R313 -/
  | waitTxEmpty
  /-- `WAIT_RX_FULL`: R314 -/
  | waitRxFull
  /-- `CHECK_ERROR`: R330 -/
  | checkError
  /-- `DELAY_BUMP`: R349 -/
  | delayBump (x : DelayName)
  /-- `SW_RESET`: R342 -/
  | swReset
  /-- `TIMING_WRITEBACK`: R344 -/
  | timingWriteback
  /-- `IRQ_ENTRY`: R371 -/
  | irqEntry
  /-- `IRQ_CMD_DONE`: R372 -/
  | irqCmdDone
  /-- `IRQ_CARD`: R375 -/
  | irqCard
  /-- `DEFERRED_FINISH`: R374 -/
  | deferredFinish
  /-- `SET_CLOCK`: R401 -/
  | setClock (rate : Word)
  /-- `SET_TIMING_MODE`: R402 -/
  | setTimingMode (mode : Byte) (ddr : Bool)
  /-- `TIMING_PROGRAM`: R402 -/
  | timingProgram
  /-- `SET_BUS_WIDTH`: R403 -/
  | setBusWidth (width : Byte)
  /-- `SET_POWER`: R404 -/
  | setPower (power : Byte)
  /-- `CARD_DETECT`: R405 -/
  | cardDetect
  /-- `VOLTAGE_SWITCH`: R406 -/
  | voltageSwitch (volt : Byte)
  /-- `ATTACH`: R407 -/
  | attach (base : Word) (srcClk : Word)
  /-- `DETACH`: R408 -/
  | detach
  /-- `B_TRIGGER`: R420 -/
  | bTrigger
  /-- `B_RSP`: R421 -/
  | bRsp (a : RspAnswer)
  /-- `B_DATA_DMA`: R424 -/
  | bDataDma (a : DmaAnswer)
  /-- `B_DATA_PIO`: R423 -/
  | bDataPio (a : PioAnswer)
  /-- `B_END`: R428 -/
  | bEnd (a : EndAnswer)
  /-- `B_CARD_IRQ`: R430 -/
  | bCardIrq
  /-- `B_SW_RESET`: R431 -/
  | bSwReset
deriving DecidableEq, Repr

/-- One register-bus access `(w, off, data)` (30_encoding.md R141). -/
inductive Access where
  | rd (r : Reg)
  | wr (r : Reg) (w : Word)
deriving DecidableEq, Repr

/-- The register-bus access that a row of format `MMIO` is. -/
def Instr.access : Instr → Option Access
  | .rdCmdbuf => some (.rd (.plain .cmdbuf))
  | .wrCmdbuf w => some (.wr (.plain .cmdbuf) w)
  | .rdCmdargLo => some (.rd (.plain .cmdargLo))
  | .wrCmdargLo w => some (.wr (.plain .cmdargLo) w)
  | .rdRspbufHi => some (.rd (.plain .rspbufHi))
  | .wrRspbufHi w => some (.wr (.plain .rspbufHi) w)
  | .rdRspbufLo => some (.rd (.plain .rspbufLo))
  | .wrRspbufLo w => some (.wr (.plain .rspbufLo) w)
  | .rdConfig => some (.rd (.masked .config))
  | .wrConfig w => some (.wr (.masked .config) w)
  | .rdCtrl => some (.rd (.masked .ctrl))
  | .wrCtrl w => some (.wr (.masked .ctrl) w)
  | .rdInt => some (.rd (.masked .int))
  | .wrInt w => some (.wr (.masked .int) w)
  | .rdState => some (.rd (.plain .state))
  | .wrState w => some (.wr (.plain .state) w)
  | .rdStatus => some (.rd (.plain .status))
  | .wrStatus w => some (.wr (.plain .status) w)
  | .rdTiming => some (.rd (.masked .timing))
  | .wrTiming w => some (.wr (.masked .timing) w)
  | .rdClkcfg => some (.rd (.masked .clkcfg))
  | .wrClkcfg w => some (.wr (.masked .clkcfg) w)
  | .rdBlksize => some (.rd (.plain .blksize))
  | .wrBlksize w => some (.wr (.plain .blksize) w)
  | .rdBlkcnt => some (.rd (.plain .blkcnt))
  | .wrBlkcnt w => some (.wr (.plain .blkcnt) w)
  | .rdDataTx => some (.rd (.plain .dataTx))
  | .wrDataTx w => some (.wr (.plain .dataTx) w)
  | .rdDataRx => some (.rd (.plain .dataRx))
  | .wrDataRx w => some (.wr (.plain .dataRx) w)
  | .rdDmaBase0 => some (.rd (.plain (.dmaBase 0)))
  | .wrDmaBase0 w => some (.wr (.plain (.dmaBase 0)) w)
  | .rdDmaSize0 => some (.rd (.plain (.dmaSize 0)))
  | .wrDmaSize0 w => some (.wr (.plain (.dmaSize 0)) w)
  | .rdDmaBase1 => some (.rd (.plain (.dmaBase 1)))
  | .wrDmaBase1 w => some (.wr (.plain (.dmaBase 1)) w)
  | .rdDmaSize1 => some (.rd (.plain (.dmaSize 1)))
  | .wrDmaSize1 w => some (.wr (.plain (.dmaSize 1)) w)
  | .rdDmaBase2 => some (.rd (.plain (.dmaBase 2)))
  | .wrDmaBase2 w => some (.wr (.plain (.dmaBase 2)) w)
  | .rdDmaSize2 => some (.rd (.plain (.dmaSize 2)))
  | .wrDmaSize2 w => some (.wr (.plain (.dmaSize 2)) w)
  | .rdDmaBase3 => some (.rd (.plain (.dmaBase 3)))
  | .wrDmaBase3 w => some (.wr (.plain (.dmaBase 3)) w)
  | .rdDmaSize3 => some (.rd (.plain (.dmaSize 3)))
  | .wrDmaSize3 w => some (.wr (.plain (.dmaSize 3)) w)
  | .rdDmaBase4 => some (.rd (.plain (.dmaBase 4)))
  | .wrDmaBase4 w => some (.wr (.plain (.dmaBase 4)) w)
  | .rdDmaSize4 => some (.rd (.plain (.dmaSize 4)))
  | .wrDmaSize4 w => some (.wr (.plain (.dmaSize 4)) w)
  | .rdDmaBase5 => some (.rd (.plain (.dmaBase 5)))
  | .wrDmaBase5 w => some (.wr (.plain (.dmaBase 5)) w)
  | .rdDmaSize5 => some (.rd (.plain (.dmaSize 5)))
  | .wrDmaSize5 w => some (.wr (.plain (.dmaSize 5)) w)
  | .rdDmaBase6 => some (.rd (.plain (.dmaBase 6)))
  | .wrDmaBase6 w => some (.wr (.plain (.dmaBase 6)) w)
  | .rdDmaSize6 => some (.rd (.plain (.dmaSize 6)))
  | .wrDmaSize6 w => some (.wr (.plain (.dmaSize 6)) w)
  | .rdDmaBase7 => some (.rd (.plain (.dmaBase 7)))
  | .wrDmaBase7 w => some (.wr (.plain (.dmaBase 7)) w)
  | .rdDmaSize7 => some (.rd (.plain (.dmaSize 7)))
  | .wrDmaSize7 w => some (.wr (.plain (.dmaSize 7)) w)
  | .submitR136 _ => none
  | .submitDataPio _ => none
  | .submitDataDmaIrqCmd _ => none
  | .submitDataDmaIrqThr _ => none
  | .submitDataDmaPoll _ => none
  | .submitNodataIrq _ => none
  | .submitNodataPoll _ => none
  | .fieldGet _ _ _ => none
  | .fieldSet _ _ _ _ => none
  | .regRd _ => none
  | .regWr _ _ => none
  | .regWrMasked _ _ => none
  | .cmdEncode _ _ _ _ => none
  | .rspNone _ => none
  | .rspGet48 _ => none
  | .rspGet136 _ => none
  | .dataCfg => none
  | .dataCfgDma => none
  | .dataCfgPio => none
  | .pioXfer => none
  | .pioWrWord _ _ => none
  | .pioRdWord _ _ => none
  | .submit _ => none
  | .finishMapfail => none
  | .trigger _ => none
  | .finish => none
  | .stopIssue => none
  | .notify _ => none
  | .waitUntil _ => none
  | .waitFinish => none
  | .waitRspFull => none
  | .waitTxEmpty => none
  | .waitRxFull => none
  | .checkError => none
  | .delayBump _ => none
  | .swReset => none
  | .timingWriteback => none
  | .irqEntry => none
  | .irqCmdDone => none
  | .irqCard => none
  | .deferredFinish => none
  | .setClock _ => none
  | .setTimingMode _ _ => none
  | .timingProgram => none
  | .setBusWidth _ => none
  | .setPower _ => none
  | .cardDetect => none
  | .voltageSwitch _ => none
  | .attach _ _ => none
  | .detach => none
  | .bTrigger => none
  | .bRsp _ => none
  | .bDataDma _ => none
  | .bDataPio _ => none
  | .bEnd _ => none
  | .bCardIrq => none
  | .bSwReset => none

end Sys2Proof
end

