-- ==== Sys2Proof/Decode.lean ====
section
/-! DEFINITION. The decoder, total on any bytes and rejecting by name, and after it the encoder.
The keys of format `MMIO` (30_encoding.md R141), the dispatch keys of format `REQ` (R139) and the operation ids of format
`SEQ` (R140) are the spec's. The bytes that carry an operation's operands behind its key or id are the model's own layout
(entry 3): the spec gives operands no encoding. Numbers are least significant byte first. -/

namespace Sys2Proof

/-- Why the decoder rejects a byte sequence. -/
inductive DecodeError where
  /-- the bytes end before the operation does -/
  | truncated
  /-- an `MMIO` key that matches no row (R141, R142 (a)) -/
  | noSuchKey (key : Nat)
  /-- a dispatch key with `rsp = R136` and `has_data = 1` (R142 (h)) -/
  | illFormedKey (key : Nat)
  /-- a dispatch key byte with bit 7 set, or one whose row is not the one the operation id names -/
  | badDispatchKey (key : Nat)
  /-- an operation id outside R140 (R142 (i)) -/
  | noSuchOperation (id : Nat)
  /-- an operand byte that stands for no value of its operand -/
  | noSuchOperand (code : Nat)
deriving DecidableEq, Repr

/-- A reader of operands: the value and the bytes that remain, or why not. -/
abbrev Get (α : Type) := List Byte → Except DecodeError (α × List Byte)

/-! ### Reading operands -/

def getByte : Get Byte
  | b :: r => .ok (b, r)
  | [] => .error .truncated

def getWord : Get Word
  | b0 :: b1 :: b2 :: b3 :: r => .ok (b3 ++ b2 ++ b1 ++ b0, r)
  | _ => .error .truncated

/-- A number of `k` bytes. -/
def getNat : Nat → Get Nat
  | 0, bs => .ok (0, bs)
  | k + 1, b :: r =>
    match getNat k r with
    | .ok (m, r') => .ok (b.toNat + 256 * m, r')
    | .error e => .error e
  | _ + 1, [] => .error .truncated

/-- `n` bytes. -/
def getBytes : Nat → Get (List Byte)
  | 0, bs => .ok ([], bs)
  | n + 1, b :: r =>
    match getBytes n r with
    | .ok (m, r') => .ok (b :: m, r')
    | .error e => .error e
  | _ + 1, [] => .error .truncated

/-- An operand that is one byte, read by a table of codes. -/
def getCode {α : Type} (f : Nat → Option α) : Get α
  | b :: r =>
    match f b.toNat with
    | some a => .ok (a, r)
    | none => .error (.noSuchOperand b.toNat)
  | [] => .error .truncated

def boolOf : Nat → Option Bool
  | 0 => some false
  | 1 => some true
  | _ => none

def errorOf : Nat → Option ErrorCode
  | 0 => some .none
  | 1 => some .rspTimeout
  | 2 => some .rspCrc7
  | 3 => some .stbTimeout
  | 4 => some .rdataCrc16
  | 5 => some .cardCrcTimeout
  | 6 => some .crcToken
  | 7 => some .dmaMap
  | 8 => some .waitTimeout
  | _ => none

/-- The codes of R138. -/
def shapeOf : Nat → Option RspShape
  | 0 => some .none
  | 1 => some .r48
  | 2 => some .r136
  | 3 => some .r48b
  | _ => none

/-- The codes of R138: `RD` = 0, `WR` = 1. -/
def dirOf : Nat → Option Dir
  | 0 => some .rd
  | 1 => some .wr
  | _ => none

def cmdSelOf : Nat → Option CmdSel
  | 0 => some .primary
  | 1 => some .stop
  | _ => none

def waitSelOf : Nat → Option WaitSel
  | 0 => some .poll
  | 1 => some .interrupt
  | _ => none

def statusBitOf : Nat → Option StatusBit
  | 0 => some .finished
  | 1 => some .error
  | 2 => some .rspTimeout
  | 3 => some .rspCrc7Err
  | 4 => some .stbTimeout
  | 5 => some .rdataCrc16Err
  | 6 => some .cardCrcTimeout
  | 7 => some .crcTokenErr
  | 8 => some .rspBufFull
  | 9 => some .txBufEmpty
  | 10 => some .rxBufFull
  | _ => none

def delayOf : Nat → Option DelayName
  | 0 => some .rdCrc
  | 1 => some .rdDat
  | 2 => some .rdRsp
  | 3 => some .wrCmd
  | 4 => some .wrDat
  | _ => none

/-- The masked registers, numbered in the order of R121. -/
def maskedOf : Nat → Option MaskedReg
  | 0 => some .config
  | 1 => some .ctrl
  | 2 => some .int
  | 3 => some .timing
  | 4 => some .clkcfg
  | _ => none

/-- A register of the descriptor table by its byte offset: slot `k` stands at `0x40 + 8 * k` (R121). -/
def slotRegOf (n : Nat) : Option Reg :=
  if n < 0x40 then none
  else if n % 8 = 0 then some (.plain (.dmaBase ((n - 0x40) / 8)))
  else if n % 8 = 4 then some (.plain (.dmaSize ((n - 0x40) / 8)))
  else none

/-- A register by its byte offset (R121). -/
def regOf : Nat → Option Reg
  | 0x00 => some (.plain .cmdbuf)
  | 0x04 => some (.plain .cmdargLo)
  | 0x08 => some (.plain .rspbufHi)
  | 0x0C => some (.plain .rspbufLo)
  | 0x10 => some (.masked .config)
  | 0x14 => some (.masked .ctrl)
  | 0x18 => some (.masked .int)
  | 0x1C => some (.plain .state)
  | 0x20 => some (.plain .status)
  | 0x24 => some (.masked .timing)
  | 0x28 => some (.masked .clkcfg)
  | 0x2C => some (.plain .blksize)
  | 0x30 => some (.plain .blkcnt)
  | 0x34 => some (.plain .dataTx)
  | 0x38 => some (.plain .dataRx)
  | n => slotRegOf n

/-- A plain register by its byte offset (R121). -/
def plainOf (n : Nat) : Option PlainReg :=
  match regOf n with
  | some (.plain r) => some r
  | _ => none

/-- A value that may be absent: a Boolean, then the word in any case. -/
def getOptWord : Get (Option Word) := fun bs => do
  let (f, bs) ← getCode boolOf bs
  let (w, bs) ← getWord bs
  .ok (if f then some w else none, bs)

def getCommand : Get Command := fun bs => do
  let (opcode, bs) ← getByte bs
  let (arg, bs) ← getWord bs
  let (rsp, bs) ← getCode shapeOf bs
  let (resp0, bs) ← getOptWord bs
  let (resp1, bs) ← getOptWord bs
  let (resp2, bs) ← getOptWord bs
  let (resp3, bs) ← getOptWord bs
  let (error, bs) ← getCode errorOf bs
  let (retries, bs) ← getNat 4 bs
  .ok ({ opcode, arg, rsp, resp0, resp1, resp2, resp3, error, retries }, bs)

def getSegments : Nat → Get (List Segment)
  | 0, bs => .ok ([], bs)
  | n + 1, bs => do
    let (buf, bs) ← getWord bs
    let (len, bs) ← getNat 8 bs
    let (gs, bs) ← getSegments n bs
    .ok ({ buf, len } :: gs, bs)

/-- A Data Descriptor. Its numbers take eight bytes each and the count of its segments two, so no event carries a scatter
list of more than 65535 segments (DESIGN CHOICE, entry 3). -/
def getData : Get DataDesc := fun bs => do
  let (dir, bs) ← getCode dirOf bs
  let (blksz, bs) ← getNat 8 bs
  let (blocks, bs) ← getNat 8 bs
  let (error, bs) ← getCode errorOf bs
  let (bytesXfered, bs) ← getNat 8 bs
  let (n, bs) ← getNat 2 bs
  let (sg, bs) ← getSegments n bs
  .ok ({ dir, blksz, blocks, sg, error, bytesXfered }, bs)

/-- A Boolean that says whether the value follows, then the value. -/
def getOpt {α : Type} (g : Get α) : Get (Option α) := fun bs => do
  let (f, bs) ← getCode boolOf bs
  if f then
    let (a, bs) ← g bs
    .ok (some a, bs)
  else .ok (none, bs)

def getRequest : Get Request := fun bs => do
  let (cmd, bs) ← getCommand bs
  let (data, bs) ← getOpt getData bs
  let (stop, bs) ← getOpt getCommand bs
  .ok ({ cmd, data, stop }, bs)

def getRspAnswer : Get RspAnswer := fun bs => do
  let (f, bs) ← getCode boolOf bs
  if f then
    let (crcOk, bs) ← getCode boolOf bs
    let (n, bs) ← getNat 1 bs
    let (xs, bs) ← getBytes n bs
    .ok (.bytes xs crcOk, bs)
  else .ok (.nothing, bs)

def getDmaAnswer : Get DmaAnswer := fun bs => do
  let (kind, bs) ← getNat 1 bs
  match kind with
  | 0 =>
    let (n, bs) ← getNat 2 bs
    let (xs, bs) ← getBytes n bs
    .ok (.read xs, bs)
  | 1 =>
    let (n, bs) ← getNat 2 bs
    .ok (.take n, bs)
  | 2 => .ok (.fail, bs)
  | c => .error (.noSuchOperand c)

def getPioAnswer : Get PioAnswer := fun bs => do
  let (kind, bs) ← getNat 1 bs
  match kind with
  | 0 =>
    let (y0, bs) ← getByte bs
    let (y1, bs) ← getByte bs
    let (y2, bs) ← getByte bs
    let (y3, bs) ← getByte bs
    .ok (.read y0 y1 y2 y3, bs)
  | 1 => .ok (.take, bs)
  | 2 => .ok (.fail, bs)
  | c => .error (.noSuchOperand c)

def getEndAnswer : Get EndAnswer := fun bs => do
  let (f, bs) ← getCode boolOf bs
  if f then
    let (e, bs) ← getCode (fun n => if n < 64 then some (BitVec.ofNat 6 n) else none) bs
    let (t, bs) ← getCode (fun n => if n < 8 then some (BitVec.ofNat 3 n) else none) bs
    let (finished, bs) ← getCode boolOf bs
    .ok (.err e t finished, bs)
  else .ok (.ok, bs)

/-! ### The dispatch table -/

/-- The row of format `REQ` a dispatch key selects: the ill-formed keys first (R142 (h), entry 25), then first match
wins in the order of R139. -/
def reqRow (k : BitVec 7) : Option PathRow :=
  if k &&& 0x70#7 = 0x50#7 then none
  else if k &&& 0x70#7 = 0x40#7 then some .r136
  else if k &&& 0x14#7 = 0x10#7 then some .dataPio
  else if k &&& 0x16#7 = 0x16#7 then some .dataDmaIrqCmd
  else if k &&& 0x17#7 = 0x15#7 then some .dataDmaIrqThr
  else if k &&& 0x17#7 = 0x14#7 then some .dataDmaPoll
  else if k &&& 0x12#7 = 0x02#7 then some .nodataIrq
  else if k &&& 0x12#7 = 0x00#7 then some .nodataPoll
  else none

/-- The operation of a row of format `REQ`, with its key. -/
def pathInstr (k : BitVec 7) : PathRow → Instr
  | .r136 => .submitR136 k
  | .dataPio => .submitDataPio k
  | .dataDmaIrqCmd => .submitDataDmaIrqCmd k
  | .dataDmaIrqThr => .submitDataDmaIrqThr k
  | .dataDmaPoll => .submitDataDmaPoll k
  | .nodataIrq => .submitNodataIrq k
  | .nodataPoll => .submitNodataPoll k

/-! ### The decoder -/

/-- Format `MMIO`: the nine-bit key, least significant byte first, then the data word of a write (R141). -/
def decodeMmio (bs : List Byte) : Except DecodeError (Instr × List Byte) := do
  let (key, bs) ← getNat 2 bs
  match key with
  | 0x000 => .ok (.rdCmdbuf, bs)
  | 0x100 => let (w, bs) ← getWord bs; .ok (.wrCmdbuf w, bs)
  | 0x004 => .ok (.rdCmdargLo, bs)
  | 0x104 => let (w, bs) ← getWord bs; .ok (.wrCmdargLo w, bs)
  | 0x008 => .ok (.rdRspbufHi, bs)
  | 0x108 => let (w, bs) ← getWord bs; .ok (.wrRspbufHi w, bs)
  | 0x00C => .ok (.rdRspbufLo, bs)
  | 0x10C => let (w, bs) ← getWord bs; .ok (.wrRspbufLo w, bs)
  | 0x010 => .ok (.rdConfig, bs)
  | 0x110 => let (w, bs) ← getWord bs; .ok (.wrConfig w, bs)
  | 0x014 => .ok (.rdCtrl, bs)
  | 0x114 => let (w, bs) ← getWord bs; .ok (.wrCtrl w, bs)
  | 0x018 => .ok (.rdInt, bs)
  | 0x118 => let (w, bs) ← getWord bs; .ok (.wrInt w, bs)
  | 0x01C => .ok (.rdState, bs)
  | 0x11C => let (w, bs) ← getWord bs; .ok (.wrState w, bs)
  | 0x020 => .ok (.rdStatus, bs)
  | 0x120 => let (w, bs) ← getWord bs; .ok (.wrStatus w, bs)
  | 0x024 => .ok (.rdTiming, bs)
  | 0x124 => let (w, bs) ← getWord bs; .ok (.wrTiming w, bs)
  | 0x028 => .ok (.rdClkcfg, bs)
  | 0x128 => let (w, bs) ← getWord bs; .ok (.wrClkcfg w, bs)
  | 0x02C => .ok (.rdBlksize, bs)
  | 0x12C => let (w, bs) ← getWord bs; .ok (.wrBlksize w, bs)
  | 0x030 => .ok (.rdBlkcnt, bs)
  | 0x130 => let (w, bs) ← getWord bs; .ok (.wrBlkcnt w, bs)
  | 0x034 => .ok (.rdDataTx, bs)
  | 0x134 => let (w, bs) ← getWord bs; .ok (.wrDataTx w, bs)
  | 0x038 => .ok (.rdDataRx, bs)
  | 0x138 => let (w, bs) ← getWord bs; .ok (.wrDataRx w, bs)
  | 0x040 => .ok (.rdDmaBase0, bs)
  | 0x140 => let (w, bs) ← getWord bs; .ok (.wrDmaBase0 w, bs)
  | 0x044 => .ok (.rdDmaSize0, bs)
  | 0x144 => let (w, bs) ← getWord bs; .ok (.wrDmaSize0 w, bs)
  | 0x048 => .ok (.rdDmaBase1, bs)
  | 0x148 => let (w, bs) ← getWord bs; .ok (.wrDmaBase1 w, bs)
  | 0x04C => .ok (.rdDmaSize1, bs)
  | 0x14C => let (w, bs) ← getWord bs; .ok (.wrDmaSize1 w, bs)
  | 0x050 => .ok (.rdDmaBase2, bs)
  | 0x150 => let (w, bs) ← getWord bs; .ok (.wrDmaBase2 w, bs)
  | 0x054 => .ok (.rdDmaSize2, bs)
  | 0x154 => let (w, bs) ← getWord bs; .ok (.wrDmaSize2 w, bs)
  | 0x058 => .ok (.rdDmaBase3, bs)
  | 0x158 => let (w, bs) ← getWord bs; .ok (.wrDmaBase3 w, bs)
  | 0x05C => .ok (.rdDmaSize3, bs)
  | 0x15C => let (w, bs) ← getWord bs; .ok (.wrDmaSize3 w, bs)
  | 0x060 => .ok (.rdDmaBase4, bs)
  | 0x160 => let (w, bs) ← getWord bs; .ok (.wrDmaBase4 w, bs)
  | 0x064 => .ok (.rdDmaSize4, bs)
  | 0x164 => let (w, bs) ← getWord bs; .ok (.wrDmaSize4 w, bs)
  | 0x068 => .ok (.rdDmaBase5, bs)
  | 0x168 => let (w, bs) ← getWord bs; .ok (.wrDmaBase5 w, bs)
  | 0x06C => .ok (.rdDmaSize5, bs)
  | 0x16C => let (w, bs) ← getWord bs; .ok (.wrDmaSize5 w, bs)
  | 0x070 => .ok (.rdDmaBase6, bs)
  | 0x170 => let (w, bs) ← getWord bs; .ok (.wrDmaBase6 w, bs)
  | 0x074 => .ok (.rdDmaSize6, bs)
  | 0x174 => let (w, bs) ← getWord bs; .ok (.wrDmaSize6 w, bs)
  | 0x078 => .ok (.rdDmaBase7, bs)
  | 0x178 => let (w, bs) ← getWord bs; .ok (.wrDmaBase7 w, bs)
  | 0x07C => .ok (.rdDmaSize7, bs)
  | 0x17C => let (w, bs) ← getWord bs; .ok (.wrDmaSize7 w, bs)
  | k => .error (.noSuchKey k)

/-- Format `REQ`: one byte, the dispatch key (R139). -/
def decodeReq (bs : List Byte) : Except DecodeError (Instr × List Byte) := do
  let (n, bs) ← getNat 1 bs
  if n < 128 then
    match reqRow (BitVec.ofNat 7 n) with
    | some row => .ok (pathInstr (BitVec.ofNat 7 n) row, bs)
    | none => .error (.illFormedKey n)
  else .error (.badDispatchKey n)

/-- A path named by its operation id: the dispatch key follows, and must select that path (entry 28). -/
def getPath (ok : PathRow → Bool) (bs : List Byte) : Except DecodeError (Instr × List Byte) := do
  let (n, bs) ← getNat 1 bs
  match reqRow (BitVec.ofNat 7 n) with
  | some row =>
    if n < 128 && ok row then .ok (pathInstr (BitVec.ofNat 7 n) row, bs) else .error (.badDispatchKey n)
  | none => .error (.badDispatchKey n)

/-- Format `SEQ`: one byte, the operation id (R140), then the operands. -/
def decodeSeq (bs : List Byte) : Except DecodeError (Instr × List Byte) := do
  let (id, bs) ← getNat 1 bs
  match id with
  | 0x01 => let (w, bs) ← getWord bs; let (lo, bs) ← getByte bs; let (n, bs) ← getByte bs; .ok (.fieldGet w lo n, bs)
  | 0x02 => let (w, bs) ← getWord bs; let (lo, bs) ← getByte bs; let (n, bs) ← getByte bs; let (v, bs) ← getWord bs; .ok (.fieldSet w lo n v, bs)
  | 0x03 => let (r, bs) ← getCode regOf bs; .ok (.regRd r, bs)
  | 0x04 => let (r, bs) ← getCode plainOf bs; let (w, bs) ← getWord bs; .ok (.regWr r w, bs)
  | 0x05 => let (m, bs) ← getCode maskedOf bs; let (w, bs) ← getWord bs; .ok (.regWrMasked m w, bs)
  | 0x10 => let (opcode, bs) ← getByte bs; let (arg, bs) ← getWord bs; let (rsp, bs) ← getCode shapeOf bs; let (hasData, bs) ← getCode boolOf bs; .ok (.cmdEncode opcode arg rsp hasData, bs)
  | 0x18 => let (c, bs) ← getCode cmdSelOf bs; .ok (.rspNone c, bs)
  | 0x19 => let (c, bs) ← getCode cmdSelOf bs; .ok (.rspGet48 c, bs)
  | 0x1A => let (c, bs) ← getCode cmdSelOf bs; .ok (.rspGet136 c, bs)
  | 0x20 => .ok (.dataCfg, bs)
  | 0x21 => .ok (.dataCfgDma, bs)
  | 0x22 => .ok (.dataCfgPio, bs)
  | 0x28 => .ok (.pioXfer, bs)
  | 0x29 => let (buf, bs) ← getWord bs; let (off, bs) ← getNat 8 bs; .ok (.pioWrWord buf off, bs)
  | 0x2A => let (buf, bs) ← getWord bs; let (off, bs) ← getNat 8 bs; .ok (.pioRdWord buf off, bs)
  | 0x30 => let (req, bs) ← getRequest bs; .ok (.submit req, bs)
  | 0x31 => getPath (fun r => r == .r136) bs
  | 0x32 => getPath (fun r => r == .dataPio) bs
  | 0x33 => getPath (fun r => r == .dataDmaPoll) bs
  | 0x34 => getPath (fun r => r == .dataDmaIrqCmd || r == .dataDmaIrqThr) bs
  | 0x35 => getPath (fun r => r == .nodataPoll) bs
  | 0x36 => getPath (fun r => r == .nodataIrq) bs
  | 0x37 => .ok (.finishMapfail, bs)
  | 0x38 => let (v, bs) ← getCode waitSelOf bs; .ok (.trigger v, bs)
  | 0x39 => .ok (.finish, bs)
  | 0x3A => .ok (.stopIssue, bs)
  | 0x3B => let (req, bs) ← getRequest bs; .ok (.notify req, bs)
  | 0x40 => let (b, bs) ← getCode statusBitOf bs; .ok (.waitUntil b, bs)
  | 0x41 => .ok (.waitFinish, bs)
  | 0x42 => .ok (.waitRspFull, bs)
  | 0x43 => .ok (.waitTxEmpty, bs)
  | 0x44 => .ok (.waitRxFull, bs)
  | 0x48 => .ok (.checkError, bs)
  | 0x49 => let (x, bs) ← getCode delayOf bs; .ok (.delayBump x, bs)
  | 0x4A => .ok (.swReset, bs)
  | 0x4B => .ok (.timingWriteback, bs)
  | 0x50 => .ok (.irqEntry, bs)
  | 0x51 => .ok (.irqCmdDone, bs)
  | 0x52 => .ok (.irqCard, bs)
  | 0x53 => .ok (.deferredFinish, bs)
  | 0x60 => let (rate, bs) ← getWord bs; .ok (.setClock rate, bs)
  | 0x61 => let (mode, bs) ← getByte bs; let (ddr, bs) ← getCode boolOf bs; .ok (.setTimingMode mode ddr, bs)
  | 0x62 => .ok (.timingProgram, bs)
  | 0x63 => let (width, bs) ← getByte bs; .ok (.setBusWidth width, bs)
  | 0x64 => let (power, bs) ← getByte bs; .ok (.setPower power, bs)
  | 0x65 => .ok (.cardDetect, bs)
  | 0x66 => let (volt, bs) ← getByte bs; .ok (.voltageSwitch volt, bs)
  | 0x67 => let (base, bs) ← getWord bs; let (srcClk, bs) ← getWord bs; .ok (.attach base srcClk, bs)
  | 0x68 => .ok (.detach, bs)
  | 0x70 => .ok (.bTrigger, bs)
  | 0x71 => let (a, bs) ← getRspAnswer bs; .ok (.bRsp a, bs)
  | 0x72 => let (a, bs) ← getDmaAnswer bs; .ok (.bDataDma a, bs)
  | 0x73 => let (a, bs) ← getPioAnswer bs; .ok (.bDataPio a, bs)
  | 0x74 => let (a, bs) ← getEndAnswer bs; .ok (.bEnd a, bs)
  | 0x75 => .ok (.bCardIrq, bs)
  | 0x76 => .ok (.bSwReset, bs)
  | n => .error (.noSuchOperation n)

/-- The decoder: the operation at the head of `bs`, read in format `f`, and the bytes behind it. -/
def decode (f : Format) (bs : List Byte) : Except DecodeError (Instr × List Byte) :=
  match f with
  | .mmio => decodeMmio bs
  | .req => decodeReq bs
  | .seq => decodeSeq bs

/-! ### Words of the opcode table -/

/-- The format a table word is read in. A word of more than one byte is an `MMIO` key. A word of one byte is an
operation id where R140 has that id, else a dispatch key: the table's two one-byte number spaces overlap at 0x02, 0x10
and 0x40 (entry 2). -/
def tableFormat (nbits w : Nat) : Format :=
  if 8 < nbits then .mmio
  else match decodeSeq (BitVec.ofNat 8 w :: List.replicate 80 0#8) with
    | .error (.noSuchOperation _) => .req
    | _ => .seq

/-- The bytes of a table word, least significant first, then operand bytes of zeros. -/
def tableBytes (nbits w : Nat) : List Byte :=
  if 8 < nbits then BitVec.ofNat 8 w :: BitVec.ofNat 8 (w / 256) :: List.replicate 80 0#8
  else BitVec.ofNat 8 w :: List.replicate 80 0#8

/-- The instruction the decoder reads from a word of spec/opcode_table.json. -/
def decodeTableWord (nbits w : Nat) : Option Instr :=
  match decode (tableFormat nbits w) (tableBytes nbits w) with
  | .ok (i, _) => some i
  | .error _ => none

/-! ### The encoder -/

def putWord (w : Word) : List Byte :=
  [w.extractLsb' 0 8, w.extractLsb' 8 8, w.extractLsb' 16 8, w.extractLsb' 24 8]

def putNat : Nat → Nat → List Byte
  | 0, _ => []
  | k + 1, n => BitVec.ofNat 8 n :: putNat k (n / 256)

def putBool (b : Bool) : List Byte := [if b then 1#8 else 0#8]

def putError (e : ErrorCode) : List Byte := [BitVec.ofNat 8 e.code]

def putShape (r : RspShape) : List Byte := [BitVec.ofNat 8 r.code]

def putDir (d : Dir) : List Byte := [BitVec.ofNat 8 d.code]

def putCmdSel : CmdSel → List Byte
  | .primary => [0#8]
  | .stop => [1#8]

def putWaitSel : WaitSel → List Byte
  | .poll => [0#8]
  | .interrupt => [1#8]

def putStatusBit : StatusBit → List Byte
  | .finished => [0#8]
  | .error => [1#8]
  | .rspTimeout => [2#8]
  | .rspCrc7Err => [3#8]
  | .stbTimeout => [4#8]
  | .rdataCrc16Err => [5#8]
  | .cardCrcTimeout => [6#8]
  | .crcTokenErr => [7#8]
  | .rspBufFull => [8#8]
  | .txBufEmpty => [9#8]
  | .rxBufFull => [10#8]

def putDelay : DelayName → List Byte
  | .rdCrc => [0#8]
  | .rdDat => [1#8]
  | .rdRsp => [2#8]
  | .wrCmd => [3#8]
  | .wrDat => [4#8]

def putMasked : MaskedReg → List Byte
  | .config => [0#8]
  | .ctrl => [1#8]
  | .int => [2#8]
  | .timing => [3#8]
  | .clkcfg => [4#8]

def putReg (r : Reg) : List Byte := [BitVec.ofNat 8 r.offset]

def putPlain (r : PlainReg) : List Byte := putReg (.plain r)

def putOptWord : Option Word → List Byte
  | some w => putBool true ++ putWord w
  | none => putBool false ++ putWord 0#32

def putCommand (c : Command) : List Byte :=
  [c.opcode] ++ putWord c.arg ++ putShape c.rsp ++ putOptWord c.resp0 ++ putOptWord c.resp1 ++ putOptWord c.resp2 ++
    putOptWord c.resp3 ++ putError c.error ++ putNat 4 c.retries

def putSegments : List Segment → List Byte
  | [] => []
  | g :: gs => putWord g.buf ++ putNat 8 g.len ++ putSegments gs

def putData (d : DataDesc) : List Byte :=
  putDir d.dir ++ putNat 8 d.blksz ++ putNat 8 d.blocks ++ putError d.error ++ putNat 8 d.bytesXfered ++
    putNat 2 d.sg.length ++ putSegments d.sg

def putOpt {α : Type} (p : α → List Byte) : Option α → List Byte
  | some a => putBool true ++ p a
  | none => putBool false

def putRequest (r : Request) : List Byte :=
  putCommand r.cmd ++ putOpt putData r.data ++ putOpt putCommand r.stop

def putRspAnswer : RspAnswer → List Byte
  | .nothing => putBool false
  | .bytes bs crcOk => putBool true ++ putBool crcOk ++ putNat 1 bs.length ++ bs

def putDmaAnswer : DmaAnswer → List Byte
  | .read bs => putNat 1 0 ++ putNat 2 bs.length ++ bs
  | .take n => putNat 1 1 ++ putNat 2 n
  | .fail => putNat 1 2

def putPioAnswer : PioAnswer → List Byte
  | .read y0 y1 y2 y3 => putNat 1 0 ++ [y0, y1, y2, y3]
  | .take => putNat 1 1
  | .fail => putNat 1 2

def putEndAnswer : EndAnswer → List Byte
  | .ok => putBool false
  | .err e t finished => putBool true ++ [e.setWidth 8] ++ [t.setWidth 8] ++ putBool finished

/-- The bytes of the key or id of each row, and its operands behind it. -/
def encode : Instr → List Byte
  | .rdCmdbuf => putNat 2 0x000
  | .wrCmdbuf w => putNat 2 0x100 ++ putWord w
  | .rdCmdargLo => putNat 2 0x004
  | .wrCmdargLo w => putNat 2 0x104 ++ putWord w
  | .rdRspbufHi => putNat 2 0x008
  | .wrRspbufHi w => putNat 2 0x108 ++ putWord w
  | .rdRspbufLo => putNat 2 0x00C
  | .wrRspbufLo w => putNat 2 0x10C ++ putWord w
  | .rdConfig => putNat 2 0x010
  | .wrConfig w => putNat 2 0x110 ++ putWord w
  | .rdCtrl => putNat 2 0x014
  | .wrCtrl w => putNat 2 0x114 ++ putWord w
  | .rdInt => putNat 2 0x018
  | .wrInt w => putNat 2 0x118 ++ putWord w
  | .rdState => putNat 2 0x01C
  | .wrState w => putNat 2 0x11C ++ putWord w
  | .rdStatus => putNat 2 0x020
  | .wrStatus w => putNat 2 0x120 ++ putWord w
  | .rdTiming => putNat 2 0x024
  | .wrTiming w => putNat 2 0x124 ++ putWord w
  | .rdClkcfg => putNat 2 0x028
  | .wrClkcfg w => putNat 2 0x128 ++ putWord w
  | .rdBlksize => putNat 2 0x02C
  | .wrBlksize w => putNat 2 0x12C ++ putWord w
  | .rdBlkcnt => putNat 2 0x030
  | .wrBlkcnt w => putNat 2 0x130 ++ putWord w
  | .rdDataTx => putNat 2 0x034
  | .wrDataTx w => putNat 2 0x134 ++ putWord w
  | .rdDataRx => putNat 2 0x038
  | .wrDataRx w => putNat 2 0x138 ++ putWord w
  | .rdDmaBase0 => putNat 2 0x040
  | .wrDmaBase0 w => putNat 2 0x140 ++ putWord w
  | .rdDmaSize0 => putNat 2 0x044
  | .wrDmaSize0 w => putNat 2 0x144 ++ putWord w
  | .rdDmaBase1 => putNat 2 0x048
  | .wrDmaBase1 w => putNat 2 0x148 ++ putWord w
  | .rdDmaSize1 => putNat 2 0x04C
  | .wrDmaSize1 w => putNat 2 0x14C ++ putWord w
  | .rdDmaBase2 => putNat 2 0x050
  | .wrDmaBase2 w => putNat 2 0x150 ++ putWord w
  | .rdDmaSize2 => putNat 2 0x054
  | .wrDmaSize2 w => putNat 2 0x154 ++ putWord w
  | .rdDmaBase3 => putNat 2 0x058
  | .wrDmaBase3 w => putNat 2 0x158 ++ putWord w
  | .rdDmaSize3 => putNat 2 0x05C
  | .wrDmaSize3 w => putNat 2 0x15C ++ putWord w
  | .rdDmaBase4 => putNat 2 0x060
  | .wrDmaBase4 w => putNat 2 0x160 ++ putWord w
  | .rdDmaSize4 => putNat 2 0x064
  | .wrDmaSize4 w => putNat 2 0x164 ++ putWord w
  | .rdDmaBase5 => putNat 2 0x068
  | .wrDmaBase5 w => putNat 2 0x168 ++ putWord w
  | .rdDmaSize5 => putNat 2 0x06C
  | .wrDmaSize5 w => putNat 2 0x16C ++ putWord w
  | .rdDmaBase6 => putNat 2 0x070
  | .wrDmaBase6 w => putNat 2 0x170 ++ putWord w
  | .rdDmaSize6 => putNat 2 0x074
  | .wrDmaSize6 w => putNat 2 0x174 ++ putWord w
  | .rdDmaBase7 => putNat 2 0x078
  | .wrDmaBase7 w => putNat 2 0x178 ++ putWord w
  | .rdDmaSize7 => putNat 2 0x07C
  | .wrDmaSize7 w => putNat 2 0x17C ++ putWord w
  | .submitR136 k => [k.setWidth 8]
  | .submitDataPio k => [k.setWidth 8]
  | .submitDataDmaIrqCmd k => [k.setWidth 8]
  | .submitDataDmaIrqThr k => [k.setWidth 8]
  | .submitDataDmaPoll k => [k.setWidth 8]
  | .submitNodataIrq k => [k.setWidth 8]
  | .submitNodataPoll k => [k.setWidth 8]
  | .fieldGet w lo n => putNat 1 0x01 ++ putWord w ++ [lo] ++ [n]
  | .fieldSet w lo n v => putNat 1 0x02 ++ putWord w ++ [lo] ++ [n] ++ putWord v
  | .regRd r => putNat 1 0x03 ++ putReg r
  | .regWr r w => putNat 1 0x04 ++ putPlain r ++ putWord w
  | .regWrMasked m w => putNat 1 0x05 ++ putMasked m ++ putWord w
  | .cmdEncode opcode arg rsp hasData => putNat 1 0x10 ++ [opcode] ++ putWord arg ++ putShape rsp ++ putBool hasData
  | .rspNone c => putNat 1 0x18 ++ putCmdSel c
  | .rspGet48 c => putNat 1 0x19 ++ putCmdSel c
  | .rspGet136 c => putNat 1 0x1A ++ putCmdSel c
  | .dataCfg => putNat 1 0x20
  | .dataCfgDma => putNat 1 0x21
  | .dataCfgPio => putNat 1 0x22
  | .pioXfer => putNat 1 0x28
  | .pioWrWord buf off => putNat 1 0x29 ++ putWord buf ++ putNat 8 off
  | .pioRdWord buf off => putNat 1 0x2A ++ putWord buf ++ putNat 8 off
  | .submit req => putNat 1 0x30 ++ putRequest req
  | .finishMapfail => putNat 1 0x37
  | .trigger v => putNat 1 0x38 ++ putWaitSel v
  | .finish => putNat 1 0x39
  | .stopIssue => putNat 1 0x3A
  | .notify req => putNat 1 0x3B ++ putRequest req
  | .waitUntil b => putNat 1 0x40 ++ putStatusBit b
  | .waitFinish => putNat 1 0x41
  | .waitRspFull => putNat 1 0x42
  | .waitTxEmpty => putNat 1 0x43
  | .waitRxFull => putNat 1 0x44
  | .checkError => putNat 1 0x48
  | .delayBump x => putNat 1 0x49 ++ putDelay x
  | .swReset => putNat 1 0x4A
  | .timingWriteback => putNat 1 0x4B
  | .irqEntry => putNat 1 0x50
  | .irqCmdDone => putNat 1 0x51
  | .irqCard => putNat 1 0x52
  | .deferredFinish => putNat 1 0x53
  | .setClock rate => putNat 1 0x60 ++ putWord rate
  | .setTimingMode mode ddr => putNat 1 0x61 ++ [mode] ++ putBool ddr
  | .timingProgram => putNat 1 0x62
  | .setBusWidth width => putNat 1 0x63 ++ [width]
  | .setPower power => putNat 1 0x64 ++ [power]
  | .cardDetect => putNat 1 0x65
  | .voltageSwitch volt => putNat 1 0x66 ++ [volt]
  | .attach base srcClk => putNat 1 0x67 ++ putWord base ++ putWord srcClk
  | .detach => putNat 1 0x68
  | .bTrigger => putNat 1 0x70
  | .bRsp a => putNat 1 0x71 ++ putRspAnswer a
  | .bDataDma a => putNat 1 0x72 ++ putDmaAnswer a
  | .bDataPio a => putNat 1 0x73 ++ putPioAnswer a
  | .bEnd a => putNat 1 0x74 ++ putEndAnswer a
  | .bCardIrq => putNat 1 0x75
  | .bSwReset => putNat 1 0x76

/-- The format each row is encoded in (30_encoding.md R120). -/
def formatOf : Instr → Format
  | .rdCmdbuf => .mmio
  | .wrCmdbuf _ => .mmio
  | .rdCmdargLo => .mmio
  | .wrCmdargLo _ => .mmio
  | .rdRspbufHi => .mmio
  | .wrRspbufHi _ => .mmio
  | .rdRspbufLo => .mmio
  | .wrRspbufLo _ => .mmio
  | .rdConfig => .mmio
  | .wrConfig _ => .mmio
  | .rdCtrl => .mmio
  | .wrCtrl _ => .mmio
  | .rdInt => .mmio
  | .wrInt _ => .mmio
  | .rdState => .mmio
  | .wrState _ => .mmio
  | .rdStatus => .mmio
  | .wrStatus _ => .mmio
  | .rdTiming => .mmio
  | .wrTiming _ => .mmio
  | .rdClkcfg => .mmio
  | .wrClkcfg _ => .mmio
  | .rdBlksize => .mmio
  | .wrBlksize _ => .mmio
  | .rdBlkcnt => .mmio
  | .wrBlkcnt _ => .mmio
  | .rdDataTx => .mmio
  | .wrDataTx _ => .mmio
  | .rdDataRx => .mmio
  | .wrDataRx _ => .mmio
  | .rdDmaBase0 => .mmio
  | .wrDmaBase0 _ => .mmio
  | .rdDmaSize0 => .mmio
  | .wrDmaSize0 _ => .mmio
  | .rdDmaBase1 => .mmio
  | .wrDmaBase1 _ => .mmio
  | .rdDmaSize1 => .mmio
  | .wrDmaSize1 _ => .mmio
  | .rdDmaBase2 => .mmio
  | .wrDmaBase2 _ => .mmio
  | .rdDmaSize2 => .mmio
  | .wrDmaSize2 _ => .mmio
  | .rdDmaBase3 => .mmio
  | .wrDmaBase3 _ => .mmio
  | .rdDmaSize3 => .mmio
  | .wrDmaSize3 _ => .mmio
  | .rdDmaBase4 => .mmio
  | .wrDmaBase4 _ => .mmio
  | .rdDmaSize4 => .mmio
  | .wrDmaSize4 _ => .mmio
  | .rdDmaBase5 => .mmio
  | .wrDmaBase5 _ => .mmio
  | .rdDmaSize5 => .mmio
  | .wrDmaSize5 _ => .mmio
  | .rdDmaBase6 => .mmio
  | .wrDmaBase6 _ => .mmio
  | .rdDmaSize6 => .mmio
  | .wrDmaSize6 _ => .mmio
  | .rdDmaBase7 => .mmio
  | .wrDmaBase7 _ => .mmio
  | .rdDmaSize7 => .mmio
  | .wrDmaSize7 _ => .mmio
  | .submitR136 _ => .req
  | .submitDataPio _ => .req
  | .submitDataDmaIrqCmd _ => .req
  | .submitDataDmaIrqThr _ => .req
  | .submitDataDmaPoll _ => .req
  | .submitNodataIrq _ => .req
  | .submitNodataPoll _ => .req
  | .fieldGet _ _ _ => .seq
  | .fieldSet _ _ _ _ => .seq
  | .regRd _ => .seq
  | .regWr _ _ => .seq
  | .regWrMasked _ _ => .seq
  | .cmdEncode _ _ _ _ => .seq
  | .rspNone _ => .seq
  | .rspGet48 _ => .seq
  | .rspGet136 _ => .seq
  | .dataCfg => .seq
  | .dataCfgDma => .seq
  | .dataCfgPio => .seq
  | .pioXfer => .seq
  | .pioWrWord _ _ => .seq
  | .pioRdWord _ _ => .seq
  | .submit _ => .seq
  | .finishMapfail => .seq
  | .trigger _ => .seq
  | .finish => .seq
  | .stopIssue => .seq
  | .notify _ => .seq
  | .waitUntil _ => .seq
  | .waitFinish => .seq
  | .waitRspFull => .seq
  | .waitTxEmpty => .seq
  | .waitRxFull => .seq
  | .checkError => .seq
  | .delayBump _ => .seq
  | .swReset => .seq
  | .timingWriteback => .seq
  | .irqEntry => .seq
  | .irqCmdDone => .seq
  | .irqCard => .seq
  | .deferredFinish => .seq
  | .setClock _ => .seq
  | .setTimingMode _ _ => .seq
  | .timingProgram => .seq
  | .setBusWidth _ => .seq
  | .setPower _ => .seq
  | .cardDetect => .seq
  | .voltageSwitch _ => .seq
  | .attach _ _ => .seq
  | .detach => .seq
  | .bTrigger => .seq
  | .bRsp _ => .seq
  | .bDataDma _ => .seq
  | .bDataPio _ => .seq
  | .bEnd _ => .seq
  | .bCardIrq => .seq
  | .bSwReset => .seq

end Sys2Proof
end

