-- ==== Sys2Proof/Machine/State.lean ====
section
/-! DEFINITION. The state of one SDMMC-TE adapter instance (10_state.md R20) as plain data, what a step can stop with,
and the state after reset (R61: after `ATTACH` has completed). INVENTORY.md's State section lists every field with its rule. -/

namespace Sys2Proof.Machine

/-! ### The register block (10_state.md R21 to R39) -/

/-- One descriptor slot (R37, R38, 30_encoding.md R134). -/
structure Slot where
  /-- `ADDR`, the low `ADDR_W` bits -/
  addr : Word
  /-- `SECTORS` -/
  sectors : Half
deriving DecidableEq, Repr

/-- A slot that nothing has written (entry 6). -/
def Slot.zero : Slot := { addr := 0, sectors := 0 }

/-- The register block. `CTRL`, `CMP_CLR` and `CARD_CLR` hold no state (R27, R28); `DATA_TX` and `DATA_RX` are the ports
of the buffers in `BusEngine`. -/
structure RegBlock where
  /-- `CMDBUF` (R22) -/
  cmdbuf : Word
  /-- `CMDARG_LO.ARG_LO` (R23) -/
  cmdargLo : Byte
  /-- `RSPBUF_HI`, bytes 0 to 3 of the response window (R24) -/
  rspHi : Word
  /-- `RSPBUF_LO.RSP_B4_5`, bytes 4 and 5 of the window (R25) -/
  rspLo : Half
  /-- the value bits of `CONFIG` (R26, R126) -/
  config : Half
  /-- `INT.CMP_EN` (R28) -/
  cmpEn : Bool
  /-- `INT.CMP_PEND` -/
  cmpPend : Bool
  /-- `INT.CARD_EN` -/
  cardEn : Bool
  /-- `INT.CARD_PEND` -/
  cardPend : Bool
  /-- `STATE.FINISHED` (R29) -/
  finished : Bool
  /-- `STATE.ERROR` -/
  error : Bool
  /-- `STATE.CRCTOKEN` -/
  crcToken : BitVec 3
  /-- `STATUS[5:0]`, the six error bits (R30, R130) -/
  errBits : BitVec 6
  /-- `STATUS.RSP_BUF_FULL` -/
  rspBufFull : Bool
  /-- `STATUS.TX_BUF_EMPTY` -/
  txBufEmpty : Bool
  /-- `STATUS.RX_BUF_FULL` -/
  rxBufFull : Bool
  /-- the value bits of `TIMING` (R31, R131) -/
  timing : Half
  /-- `CLKCFG.CLK_DIV`, which is `host.clk_div` too (R32, entry 37) -/
  clkDiv : BitVec 12
  /-- `BLKSIZE` (R33) -/
  blksize : Word
  /-- `BLKCNT` (R34) -/
  blkcnt : Word
  /-- the descriptor table (R37, R38, R46): slot `k` is entry `k`, and a slot behind the list is `Slot.zero` -/
  slots : List Slot
deriving DecidableEq, Repr

/-- The register block when the reset line is released (R61, R500). The registers R61 calls unspecified hold 0, a value
this model names (entry 6). -/
def RegBlock.reset : RegBlock where
  cmdbuf := 0
  cmdargLo := 0
  rspHi := 0
  rspLo := 0
  config := 0
  cmpEn := false
  cmpPend := false
  cardEn := false
  cardPend := false
  finished := false
  error := false
  crcToken := 0
  errBits := 0
  rspBufFull := false
  txBufEmpty := true
  rxBufFull := false
  timing := 0
  clkDiv := 0
  blksize := 0
  blkcnt := 0
  slots := []

/-! ### The bus engine (R53 to R56) -/

/-- The registers the engine copies at `B_TRIGGER` (R55, 20_memory.md R89). -/
structure Latched where
  cmdbuf : Word
  cmdargLo : Byte
  config : Half
  blksize : Word
  blkcnt : Word
  timing : Half
deriving DecidableEq, Repr

/-- `bus.phase` (R55). -/
inductive BusPhase where
  | idle
  | busy
deriving DecidableEq, Repr

/-- How far the response phase of the transaction in flight is (49_host_and_bus_interfaces.md R421). -/
inductive RspPhase where
  /-- a response is expected and has not been answered -/
  | waiting
  /-- captured, or skipped because `RSP_EN` was latched 0 -/
  | done
  /-- captured with a bad CRC7 that the engine noticed -/
  | badCrc
  /-- the card did not answer -/
  | timedOut
deriving DecidableEq, Repr

/-- The hidden state of the bus engine. -/
structure BusEngine where
  /-- `bus.rsp_stream` (R53) -/
  rspStream : List Byte
  /-- `bus.tx_fifo` (R54) -/
  txFifo : List Word
  /-- `bus.rx_fifo` (R54) -/
  rxFifo : List Word
  phase : BusPhase
  /-- `bus.latched`, or no value (R55, R431) -/
  latched : Option Latched
  /-- `bus.dma_pos`, the slot index (R56) -/
  dmaSlot : Nat
  /-- `bus.dma_pos`, the byte offset (R56) -/
  dmaOff : Nat
  rspPhase : RspPhase
  /-- data bytes that have passed in this transaction (R423, R424) -/
  moved : Nat
  /-- the data phase has failed (R424) -/
  dataFailed : Bool
  /-- data bytes sent to the card in this transaction, in bus order (R423, R424) -/
  sent : List Byte
  /-- the clock value from which a trigger is legal after a soft reset (R431, X6) -/
  readyAt : Nat
  /-- the leading bytes of the mapped read buffers that the engine has written since `dma_map` (20_memory.md R90, the
  model's own, entry 14) -/
  arrived : Nat
deriving DecidableEq, Repr

/-- The engine after the reset line is released (R61). A settling delay that still runs ends with it (DESIGN CHOICE,
entry 27). -/
def BusEngine.reset : BusEngine where
  rspStream := []
  txFifo := []
  rxFifo := []
  phase := .idle
  latched := none
  dmaSlot := 0
  dmaOff := 0
  rspPhase := .done
  moved := 0
  dataFailed := false
  sent := []
  readyAt := 0
  arrived := 0

/-! ### The Host (R40, R45, R47 to R52) -/

/-- The Tuning State (R45). -/
structure Tuning where
  rdCrc : BitVec 3
  rdDat : BitVec 3
  rdRsp : BitVec 3
  wrCmd : BitVec 3
  wrDat : BitVec 3
  needTuning : ErrorCode
deriving DecidableEq, Repr

/-- The state of the Request State Machine (R47). -/
inductive TcState where
  | idle
  | preparing
  | triggered
  | waitingPoll
  | waitingInterrupt
  | finishing
deriving DecidableEq, Repr

/-- A lock is free or held (R50, R51). -/
inductive LockState where
  | free
  | held
deriving DecidableEq, Repr

/-- A mapped segment `(dma_addr, len)` (20_memory.md R87). -/
structure Mapped where
  addr : Word
  len : Nat
deriving DecidableEq, Repr

/-- The Host context (R40), with the sequencer state, the locks and the deferred slot (R20 (b), (d), (f), (g)). -/
structure HostCtx where
  base : Word
  mode : HostMode
  path : PathMode
  useInt : Bool
  mrq : Option Request
  power : Byte
  voltage : Byte
  srcClk : Word
  ddr : Bool
  tune : Tuning
  busClock : Word
  busWidth : Byte
  timingMode : Byte
  dmaIntReq : Bool
  waitFailed : Bool
  dmaMapped : Option (List Mapped)
  lock : LockState
  irqLock : LockState
  deferred : Bool
  tc : TcState
  /-- the Host exists: between `ATTACH` and `DETACH` (R407, R408) -/
  attached : Bool
  /-- `use_int` and `clk_div` have been set (R271, R505) -/
  clockSet : Bool
  /-- `TIMING` has been set, after the clock (R271, R505, entry 7) -/
  timingSet : Bool
  /-- the completion interrupt of the outstanding Request has been taken (R48, the model's own, entry 42) -/
  cmpTaken : Bool
deriving DecidableEq, Repr

/-- The Host as `ATTACH` initialises it (R61, R407). The fields R40 gives no value hold one this model names (entry 7). -/
def HostCtx.fresh (base srcClk : Word) (path : PathMode) (mode : HostMode) : HostCtx where
  base := base
  mode := mode
  path := path
  useInt := false
  mrq := none
  power := 0
  voltage := 0
  srcClk := srcClk
  ddr := false
  tune := { rdCrc := 0, rdDat := 0, rdRsp := 0, wrCmd := 0, wrDat := 0, needTuning := .none }
  busClock := 0
  busWidth := 0
  timingMode := 0
  dmaIntReq := false
  waitFailed := false
  dmaMapped := none
  lock := .free
  irqLock := .free
  deferred := false
  tc := .idle
  attached := true
  clockSet := false
  timingSet := false
  cmpTaken := false

/-- The platform resources `ATTACH` and `DETACH` drive (R407 to R409). -/
structure Platform where
  clkOn : Bool
  rstAsserted : Bool
  irqBound : Bool
  /-- every resource `ATTACH` asks for can be had (R407, entry 47) -/
  available : Bool
deriving DecidableEq, Repr

/-- The platform's answer of `dma_map` for one scatter list and direction (20_memory.md R87, entry 13). -/
structure MapEntry where
  sg : List Segment
  dir : Dir
  mapped : List Mapped
deriving DecidableEq, Repr

/-! ### Agents and what they still have to do -/

/-- Who takes a step (00_scope.md R4). `P` has one thread per submitter (60_exceptions.md R470). U's calls are run by a
thread of `P`. -/
inductive Agent where
  | p (tid : Nat)
  | i
  | w
  | b
deriving DecidableEq, Repr

/-- What stands on an agent's control stack: "the position in the pseudocode of the path's rule" (R47). -/
inductive Frame where
  /-- run this operation next -/
  | call (i : Instr)
  /-- blocked in `acquire(host.lock)` of this operation (R50, R286) -/
  | blocked (i : Instr)
  /-- polling inside a bounded wait with this absolute deadline (46_bounded_waits.md R310) -/
  | poll (b : StatusBit) (deadline : Nat)
  /-- `RSP_GET48` in its wait (42_response_decoder.md R201) -/
  | rsp48 (c : CmdSel) (deadline : Nat)
  /-- `RSP_GET136` in a wait, with the pairs already read, oldest first (R202) -/
  | rsp136 (c : CmdSel) (pairs : List (Word × Word)) (deadline : Nat)
  /-- a PIO word operation in its wait (44_pio_engine.md R251, R252) -/
  | pioWord (dir : Dir) (buf : Word) (off : Nat) (deadline : Nat)
  /-- `PIO_XFER` behind the word at `off` of the first of `segs` (R250) -/
  | pioNext (dir : Dir) (off : Nat) (segs : List Segment)
  /-- the settling delay, served until this clock value (47_error_classifier_tuner.md R343) -/
  | settle (until_ : Nat)
  /-- the last line of `CHECK_ERROR` (R345) -/
  | needTuning (e : ErrorCode)
  /-- `SUBMIT` behind `CMD_ENCODE` (45_transaction_controller.md R271) -/
  | afterEncode
  /-- `SUBMIT` behind `DATA_CFG` (R271) -/
  | afterCfg
  /-- `SUBMIT` returns `SUBMITTED` (R271) -/
  | submitReturn
  /-- `SUBMIT.R136` behind `WAIT_FINISH` (R272) -/
  | enterFinishing
  /-- the tail of `SUBMIT.R136` and of `FINISH_MAPFAIL` (R272, R278) -/
  | tailR136
  /-- the tail of `FINISH` (R280) -/
  | tailFinish
  /-- `STOP_ISSUE` behind `RSP_GET` (R282) -/
  | stopCheck
deriving DecidableEq, Repr

/-- The context of a thread of P, of I or of W. -/
structure Ctx where
  /-- what it still has to do, next first -/
  stack : List Frame
  /-- the word its last register read or field operation returned (40_register_access.md R160 to R162) -/
  word : Word
  /-- 0 or -1: the result of its last wait, PIO word operation or `DATA_CFG` (46_bounded_waits.md R316) -/
  ret : Int
deriving DecidableEq, Repr

/-- A context with nothing to do. -/
def Ctx.idle : Ctx := { stack := [], word := 0, ret := 0 }

/-- One entry of the schedule (entry 1). -/
inductive Event where
  /-- agent `a` starts the operation that `bytes` encode in format `f` (a trace line of 30_encoding.md R144) -/
  | run (a : Agent) (f : Format) (bytes : List Byte)
  /-- agent `a` takes its next step -/
  | resume (a : Agent)
  /-- the clock advances (R58) -/
  | tick (d : Nat)
  /-- a cancel request of the submitter of this thread (45_transaction_controller.md R286) -/
  | signal (tid : Nat)
  /-- U writes a byte of one of its buffers (49_host_and_bus_interfaces.md R400) -/
  | uWrite (buf : Word) (off : Nat) (v : Byte)
  /-- from now on the platform's resources can all be had, or one of them cannot (R407, entry 47) -/
  | provide (available : Bool)
deriving DecidableEq, Repr

/-- What the block sends outside (entry 38). -/
inductive Output where
  /-- `NOTIFY(req)` (45_transaction_controller.md R283) -/
  | notify (req : Request)
  /-- the event `card_irq` (48_interrupt_deferred.md R375) -/
  | cardIrq
  /-- the command sent to the card (49_host_and_bus_interfaces.md R420) -/
  | cmd (opcode : BitVec 6) (arg : Word)
  /-- `SUBMIT` returned `SUBMITTED` to this thread (R271) -/
  | submitted (tid : Nat)
  /-- `SUBMIT` returned `SUBMIT_ABORTED` to this thread (R286) -/
  | submitAborted (tid : Nat)
  /-- the result of `CARD_DETECT` (R405) -/
  | cardPresent (b : Bool)
  /-- the result of `VOLTAGE_SWITCH` (R406) -/
  | voltageResult (ok : Bool)
deriving DecidableEq, Repr

/-- A memory: (address, byte) pairs, addresses strictly rising, no entry equal to what an unlisted address reads as. -/
abbrev Memory := List Host.Cell

/-- What an unlisted address reads as (DESIGN CHOICE, entry 11). -/
def Memory.unlisted : Byte := 0#8

/-- Addresses strictly rise from above `lo`, and no entry holds the unlisted byte. -/
def Memory.wfAbove : Option Nat → Memory → Bool
  | _, [] => true
  | lo, (a, b) :: m => (lo.all fun l => decide (l < a)) && b != Memory.unlisted && Memory.wfAbove (some a) m

/-- The canonical form of a memory. -/
def Memory.wf (m : Memory) : Bool := Memory.wfAbove none m

/-- The state of the machine. -/
structure State where
  /-- the parameters of R7; no step changes them (entry 4) -/
  cfg : Cfg
  reg : RegBlock
  bus : BusEngine
  host : HostCtx
  plat : Platform
  /-- the platform's answers of `dma_map` (entry 13) -/
  maps : List MapEntry
  /-- the DMA address space (20_memory.md R80 (b)) -/
  dmaMem : Memory
  /-- the buffer space (R80 (c)), a byte of buffer `buf` at offset `off` under the key `bufKey buf off` -/
  bufMem : Memory
  /-- the monotonic clock (R58) -/
  now : Nat
  /-- the next index of a free value (entry 9) -/
  draws : Nat
  /-- the submission threads of P, by thread number -/
  p : List Ctx
  /-- the interrupt service unit -/
  i : Ctx
  /-- the deferred-completion unit -/
  w : Ctx
  /-- the threads of P whose submitter has a cancel request pending (45_transaction_controller.md R286, entry 16) -/
  cancels : List Nat
  /-- who takes the current step -/
  actor : Agent
  /-- the steps still to come (entry 1) -/
  sched : List Event
  /-- what has been sent outside, newest first -/
  out : List Output
deriving DecidableEq, Repr

/-- The machine right after reset: R61's column "after `ATTACH`", with every agent idle (70_reset_and_hazards.md R502).
`CARD_EN` is 1: `ATTACH` has set it (R28, R407). -/
def State.reset : State where
  cfg := Config.reference
  reg := { RegBlock.reset with cardEn := true }
  bus := BusEngine.reset
  host := HostCtx.fresh Config.reference.base Config.srcClk Config.reference.path Config.reference.mode
  plat := { clkOn := true, rstAsserted := false, irqBound := true, available := true }
  maps := []
  dmaMem := []
  bufMem := []
  now := 0
  draws := 0
  p := []
  i := Ctx.idle
  w := Ctx.idle
  cancels := []
  actor := .p 0
  sched := []
  out := []

/-- Why the machine stops with a fault. -/
inductive Fault where
  /-- Raised by `B_RSP`, `B_DATA_DMA` and `B_END` on an answer of the card oracle that breaks the bus engine's contract
  (49_host_and_bus_interfaces.md R421, R424, R428; 93_implementation_defined.md S3). Safe: the engine never gives it. -/
  | busContract
deriving DecidableEq, Repr

/-- Why the machine refuses a step (00_scope.md R12). Every refusal is safe: the model stops where the spec gives no
meaning. -/
inductive Refusal where
  /-- raised by `exec` for an instruction without a meaning -/
  | notModelled (mnemonic : String)
  /-- raised by `step`: the bytes encode no operation (30_encoding.md R142 (a), (h), (i)) -/
  | undecodable (e : DecodeError)
  /-- raised by `step`: this agent never runs this operation (00_scope.md R4, 48_interrupt_deferred.md R371, R374, R378,
  49_host_and_bus_interfaces.md R432, 60_exceptions.md R466; entry 22) -/
  | wrongAgent
  /-- raised by `step`: the agent still stands inside an earlier operation (10_state.md R47, 46_bounded_waits.md R310,
  47_error_classifier_tuner.md R343; entry 41) -/
  | agentBusy
  /-- raised by `step`: while a Request is outstanding only the owner of the transaction runs this operation, inline
  (10_state.md R48, 20_memory.md R86; entry 42) -/
  | inlineOnly
  /-- raised by `step`: an operation before `ATTACH` or after `DETACH` (X7) -/
  | notAttached
  /-- raised by `SUBMIT` and `DATA_CFG`: an ill-formed Request (45_transaction_controller.md R271, X1) -/
  | illFormedRequest
  /-- raised by register writes and `B_TRIGGER`: `bus.phase = BusBusy` (70_reset_and_hazards.md R510, X2) -/
  | busBusy
  /-- raised by `B_TRIGGER`: the settling delay has not passed (49_host_and_bus_interfaces.md R431, X6) -/
  | settling
  /-- raised by `B_TRIGGER`: `TRANS_MODE = 0b11` with `AUTO_RSP = 1` (R420, X3) -/
  | reservedTransMode
  /-- raised by accesses of a slot at or above `MAX_SEG` (10_state.md R39, X4) -/
  | unmappedOffset
  /-- raised by writes of `DATA_TX` while `TX_BUF_EMPTY = 0` (10_state.md R35, X5) -/
  | txNotEmpty
  /-- raised by `ATTACH` and `DETACH` while a request is outstanding or the mutex is held (R285, R408, X7) -/
  | requestOutstanding
  /-- raised by `ATTACH`: `BASE` is no multiple of 4 (00_scope.md R7, X11) -/
  | illegalBase
  /-- raised by the typed write accessor of masked registers on a plain one (40_register_access.md R166) -/
  | plainRegister
  /-- raised by `FIELD_GET` and `FIELD_SET`: the field is empty or leaves the word (40_register_access.md R160) -/
  | fieldLeavesWord
  /-- raised by `CMD_ENCODE`: an opcode above 63 (41_command_encoder.md R181, 30_encoding.md R142 (g)) -/
  | opcodeRange
  /-- raised by operations on the outstanding Request when there is none, or it lacks the Command or Data Descriptor
  they work on: the operand does not exist -/
  | noOperand
  /-- raised by the paths of `SUBMIT` and by `FINISH_MAPFAIL`: not the request the rule's operands name (R272 to R278) -/
  | pathOperands
  /-- raised by `TRIGGER` outside `Preparing` (10_state.md R48) -/
  | notPreparing
  /-- raised by `DATA_CFG_DMA`: a mapping the descriptor table cannot express (43_data_path_configurator.md R228,
  70_reset_and_hazards.md R513, X1) -/
  | mappingNotExpressible
  /-- raised by U's writes: the buffer belongs to a Request between its `SUBMIT` and its `NOTIFY` (20_memory.md R87,
  49_host_and_bus_interfaces.md R400, 70_reset_and_hazards.md R521) -/
  | bufferMapped
  /-- raised by `B_DATA_DMA`: the latched `DMA_SEL` does not agree with `TRANS_MODE` (R424) -/
  | dmaSelMismatch
  /-- raised by `B_DATA_DMA`: a slot with `SECTORS = 0`, a slot index of `MAX_SEG` or more, or an address outside the
  DMA address space (R425) -/
  | slotWalk
deriving DecidableEq, Repr

end Sys2Proof.Machine
end

