-- ==== Sys2Proof/Machine/Operands.lean ====
section
/-! DEFINITION. Fields of register words, the masked-write word, the byte orders, and what the fields of Requests,
buffers and mapped segments stand for (30_encoding.md R123 to R138, 20_memory.md R82, 40_register_access.md R160, R161). -/

namespace Sys2Proof.Machine

/-! ### Bit fields (R160, R161) -/

/-- `FIELD_GET(w, lo, n)` (R160). -/
def fieldGetWord (w : Word) (lo n : Nat) : Word := (w >>> lo) &&& lowMask n

/-- `FIELD_SET(w, lo, n, v)`: the value is truncated to `n` bits (R161). -/
def fieldSetWord (w : Word) (lo n : Nat) (v : Word) : Word :=
  (w &&& ~~~(lowMask n <<< lo)) ||| ((v <<< lo) &&& (lowMask n <<< lo))

/-- The field `(lo, n)` lies in a word and is not empty (R160). -/
def fieldLegal (lo n : Nat) : Bool := decide (1 ≤ n) && decide (lo + n ≤ 32)

/-- The masked-write word `MW(m, v) = (m << 16) | (v & m)` (R123). -/
def mw (m v : Half) : Word := m ++ (v &&& m)

/-- The mask half of a masked-write word (R123). -/
def maskHalf (w : Word) : Half := w.extractLsb' 16 16

/-- The value half of a masked-write word (R123). -/
def valueHalf (w : Word) : Half := w.extractLsb' 0 16

/-- `old` with the bits that `mask` and `writable` both hold replaced by those of `value` (40_register_access.md R164). -/
def mergeHalf (old mask value writable : Half) : Half :=
  (old &&& ~~~(mask &&& writable)) ||| (value &&& (mask &&& writable))

/-- A named field of a register: its lowest bit and its width (30_encoding.md R124 to R134). `BLK_SIZE_M1`, `BLK_CNT_M1`
and `ADDR` are narrower where `BLKSIZE_W`, `BLKCNT_W` or `ADDR_W` is: the bits above are reserved and read 0. -/
structure Field where
  lo : Nat
  width : Nat
deriving DecidableEq, Repr

def Field.rspEn : Field := ⟨0, 1⟩
def Field.rspLen : Field := ⟨1, 1⟩
def Field.crc7En : Field := ⟨2, 1⟩
def Field.autoRsp : Field := ⟨3, 1⟩
def Field.lenMode : Field := ⟨4, 1⟩
def Field.transMode : Field := ⟨5, 2⟩
def Field.dmaSel : Field := ⟨7, 1⟩
def Field.pioEn : Field := ⟨8, 1⟩
def Field.rx4bEn : Field := ⟨9, 1⟩
def Field.trigger : Field := ⟨0, 1⟩
def Field.swReset : Field := ⟨1, 1⟩
def Field.cmpEn : Field := ⟨0, 1⟩
def Field.cmpPend : Field := ⟨1, 1⟩
def Field.cmpClr : Field := ⟨2, 1⟩
def Field.cardEn : Field := ⟨4, 1⟩
def Field.cardPend : Field := ⟨5, 1⟩
def Field.cardClr : Field := ⟨6, 1⟩
def Field.clkDiv : Field := ⟨0, 12⟩
def Field.start : Field := ⟨30, 2⟩
def Field.opcode : Field := ⟨24, 6⟩
def Field.argHi : Field := ⟨0, 24⟩
def Field.argLo : Field := ⟨0, 8⟩
def Field.rspB03 : Field := ⟨0, 32⟩
def Field.rspB45 : Field := ⟨0, 16⟩
def Field.finished : Field := ⟨0, 1⟩
def Field.error : Field := ⟨1, 1⟩
def Field.crcToken : Field := ⟨4, 3⟩
def Field.rspTimeout : Field := ⟨0, 1⟩
def Field.rspCrc7Err : Field := ⟨1, 1⟩
def Field.stbTimeout : Field := ⟨2, 1⟩
def Field.rdataCrc16Err : Field := ⟨3, 1⟩
def Field.cardCrcTimeout : Field := ⟨4, 1⟩
def Field.crcTokenErr : Field := ⟨5, 1⟩
def Field.rspBufFull : Field := ⟨8, 1⟩
def Field.txBufEmpty : Field := ⟨9, 1⟩
def Field.rxBufFull : Field := ⟨10, 1⟩
def Field.rdCrcDly : Field := ⟨0, 3⟩
def Field.rdDatDly : Field := ⟨3, 3⟩
def Field.rdRspDly : Field := ⟨6, 3⟩
def Field.wrCmdDly : Field := ⟨9, 3⟩
def Field.wrDatDly : Field := ⟨12, 3⟩
def Field.blkSizeM1 : Field := ⟨0, 32⟩
def Field.blkCntM1 : Field := ⟨0, 32⟩
def Field.data : Field := ⟨0, 32⟩
def Field.addr : Field := ⟨0, 32⟩
def Field.sectors : Field := ⟨0, 16⟩

/-- The mask of a field: `fieldmask(F)` (40_register_access.md R166). -/
def Field.mask (f : Field) : Half := (lowMask f.width <<< f.lo).setWidth 16

/-- `read_field` on a word already read (R165). -/
def readField (w : Word) (f : Field) : Word := fieldGetWord w f.lo f.width

/-- The word of `write_field_masked(reg, F, v)` (R166). -/
def writeFieldWord (f : Field) (v : Half) : Word := mw f.mask (v <<< f.lo)

/-! ### The latched `CONFIG` (30_encoding.md R126) -/

/-- Bit `RSP_EN` of a `CONFIG` value. -/
def cfgRspEn (c : Half) : Bool := c.getLsbD 0
/-- Bit `RSP_LEN`. -/
def cfgRspLen (c : Half) : Bool := c.getLsbD 1
/-- Bit `CRC7_EN`. -/
def cfgCrc7En (c : Half) : Bool := c.getLsbD 2
/-- Bit `AUTO_RSP`. -/
def cfgAutoRsp (c : Half) : Bool := c.getLsbD 3
/-- Field `TRANS_MODE`. -/
def cfgTransMode (c : Half) : BitVec 2 := c.extractLsb' 5 2
/-- Bit `DMA_SEL`. -/
def cfgDmaSel (c : Half) : Bool := c.getLsbD 7
/-- Bit `PIO_EN`. -/
def cfgPioEn (c : Half) : Bool := c.getLsbD 8

/-- The direction of the data phase a `CONFIG` value describes, if it describes one
(49_host_and_bus_interfaces.md R427). -/
def cfgDataPhase (c : Half) : Option Dir :=
  if cfgAutoRsp c then
    (if cfgTransMode c = 0b01#2 then some .wr else if cfgTransMode c = 0b10#2 then some .rd else none)
  else none

/-! ### Command words (30_encoding.md R124, R135) -/

/-- The command word `(0b01 << 30) | (opcode << 24) | (arg >> 8)` (41_command_encoder.md R181). -/
def commandWord (opcode : Byte) (arg : Word) : Word :=
  (0x40000000#32 ||| (opcode.setWidth 32 <<< 24)) ||| (arg >>> 8)

/-- The opcode the bus engine sends: `CMDBUF[29:24]` (49_host_and_bus_interfaces.md R420). -/
def sentOpcode (cmdbuf : Word) : BitVec 6 := cmdbuf.extractLsb' 24 6

/-- The argument the bus engine sends: `(CMDBUF[23:0] << 8) | CMDARG_LO` (R420). -/
def sentArg (cmdbuf : Word) (argLo : Byte) : Word := cmdbuf.extractLsb' 0 24 ++ argLo

/-! ### Byte orders (20_memory.md R82, 30_encoding.md R125) -/

/-- The word of four bytes in ascending address order (R82). -/
def wordOfBytes (b0 b1 b2 b3 : Byte) : Word := b3 ++ b2 ++ b1 ++ b0

/-- Byte `k` of a word in ascending address order (R82). -/
def byteOfWord (w : Word) (k : Nat) : Byte := w.extractLsb' (8 * k) 8

/-- The four bytes of a word in bus order (R82). -/
def bytesOfWord (w : Word) : List Byte := [byteOfWord w 0, byteOfWord w 1, byteOfWord w 2, byteOfWord w 3]

/-- `RSPBUF_HI` of a window: the first byte received is the most significant (R125). -/
def windowHi (w0 w1 w2 w3 : Byte) : Word := w0 ++ w1 ++ w2 ++ w3

/-- `RSPBUF_LO.RSP_B4_5` of a window (R125). -/
def windowLo (w4 w5 : Byte) : Half := w4 ++ w5

/-- The two response words of a 48-bit response (42_response_decoder.md R201). `lo` is the whole register word. -/
def repack48 (hi lo : Word) : Word × Word :=
  ((hi <<< 8) ||| ((lo &&& 0xFFFF#32) >>> 8), ((lo &&& 0xFF#32) <<< 24))

/-- The four response words of a 136-bit response, from its three register pairs (R202). -/
def repack136 (p0 p1 p2 : Word × Word) : Word × Word × Word × Word :=
  let lo0 := p0.2 &&& 0xFFFF#32
  let lo1 := p1.2 &&& 0xFFFF#32
  let lo2 := p2.2 &&& 0xFFFF#32
  ((p0.1 <<< 8) ||| (lo0 >>> 8),
   ((lo0 &&& 0xFF#32) <<< 24) ||| (p1.1 >>> 8),
   ((p1.1 &&& 0xFF#32) <<< 24) ||| (lo1 <<< 8) ||| (p2.1 >>> 24),
   (p2.1 <<< 8) ||| (lo2 >>> 8))

/-- The `TIMING` value of five delays, in the source's order (47_error_classifier_tuner.md R344). -/
def timingValue (rdCrc rdDat rdRsp wrCmd wrDat : BitVec 3) : Half :=
  rdCrc.setWidth 16 ||| (rdDat.setWidth 16 <<< 3) ||| (rdRsp.setWidth 16 <<< 6) ||| (wrCmd.setWidth 16 <<< 9) |||
    (wrDat.setWidth 16 <<< 12)

/-! ### Writable bits (10_state.md R39, 30_encoding.md R131 to R134) -/

/-- The writable bits of `CONFIG` (R126). -/
def configWritable : Half := 0x03FF#16

/-- The writable bits of `TIMING`: the low `DLY_W` bits of each lane (R131). -/
def timingWritable (c : Cfg) : Half :=
  let lane := (lowMask (min c.dlyW 3)).setWidth 3
  timingValue lane lane lane lane lane

/-- The writable bits of `CLKCFG` (R132). -/
def clkcfgWritable : Half := 0x0FFF#16

/-- The writable bits of `BLKSIZE` (R133). -/
def blksizeWritable (c : Cfg) : Word := lowMask c.blksizeW

/-- The writable bits of `BLKCNT` (R133). -/
def blkcntWritable (c : Cfg) : Word := lowMask c.blkcntW

/-- The writable bits of a slot's base register (R134). -/
def addrWritable (c : Cfg) : Word := lowMask c.addrW

/-- The bits of a delay (10_state.md R45). -/
def delayMask (c : Cfg) : BitVec 3 := (lowMask (min c.dlyW 3)).setWidth 3

/-! ### Requests (30_encoding.md R139, 45_transaction_controller.md R271) -/

/-- The total length of a scatter list. -/
def segmentsLength : List Segment → Nat
  | [] => 0
  | g :: gs => g.len + segmentsLength gs

/-- The total length of a list of mapped segments. -/
def mappedLength : List Mapped → Nat
  | [] => 0
  | m :: ms => m.len + mappedLength ms

/-- The completion fields of a Command hold their initial values (10_state.md R42). -/
def commandFresh (c : Command) : Bool :=
  c.error == .none && c.retries == 0 && c.resp0.isNone && c.resp1.isNone && c.resp2.isNone && c.resp3.isNone

/-- `BLK_SIZE_M1` and `BLK_CNT_M1` can hold the block size and the block count (43_data_path_configurator.md R221, R222). -/
def blocksLegal (c : Cfg) (d : DataDesc) : Bool :=
  decide (1 ≤ d.blksz) && decide (d.blksz ≤ 2 ^ c.blksizeW) && decide (1 ≤ d.blocks) && decide (d.blocks ≤ 2 ^ c.blkcntW)

/-- The conditions of R271 on a Data Descriptor. -/
def dataWellFormed (c : Cfg) (path : PathMode) (d : DataDesc) : Bool :=
  blocksLegal c d && segmentsLength d.sg == d.size &&
    (path == .dma || d.sg.all fun g => g.len % 4 == 0) && d.error == .none && d.bytesXfered == 0

/-- `well_formed(req)` (R271), but for the conditions on the Host. -/
def requestWellFormed (c : Cfg) (path : PathMode) (r : Request) : Bool :=
  decide (r.cmd.opcode.toNat ≤ 63) && (r.cmd.rsp != .r136 || r.data.isNone) &&
    (r.stop.all fun x => r.data.isSome && decide (x.opcode.toNat ≤ 63) && commandFresh x) &&
    r.data.all (dataWellFormed c path) && commandFresh r.cmd

/-- The dispatch key `K` of a Request (R139). -/
def dispatchKey (c : Cfg) (path : PathMode) (useInt : Bool) (r : Request) : BitVec 7 :=
  BitVec.ofNat 2 r.cmd.rsp.code ++ BitVec.ofBool r.data.isSome ++
    BitVec.ofBool (r.data.any fun d => d.dir == .wr) ++ BitVec.ofBool (r.data.isSome && path == .dma) ++
    BitVec.ofBool useInt ++
    BitVec.ofBool (path == .dma && r.data.any fun d => decide (c.dmaIntThreshold < d.size))

end Sys2Proof.Machine
end

