-- ==== Sys2Proof/Machine/Flags.lean ====
section
/-! DEFINITION. The flags: the words `INT`, `STATE` and `STATUS` show (30_encoding.md R128 to R130), the interrupt line
(10_state.md R57), the completion-interrupt enables, and the classification of an error state
(47_error_classifier_tuner.md R330 to R339). -/

namespace Sys2Proof.Machine

/-- A one-bit field at bit `n` of a word. -/
def bitWord (b : Bool) (n : Nat) : Word := if b then 1#32 <<< n else 0#32

/-- What a read of `INT` returns (R128): the action bits read 0. -/
def intView (r : RegBlock) : Word :=
  bitWord r.cmpEn 0 ||| bitWord r.cmpPend 1 ||| bitWord r.cardEn 4 ||| bitWord r.cardPend 5

/-- What a read of `STATE` returns (R129). -/
def stateView (r : RegBlock) : Word :=
  bitWord r.finished 0 ||| bitWord r.error 1 ||| (r.crcToken.setWidth 32 <<< 4)

/-- What a read of `STATUS` returns (R130). -/
def statusView (r : RegBlock) : Word :=
  r.errBits.setWidth 32 ||| bitWord r.rspBufFull 8 ||| bitWord r.txBufEmpty 9 ||| bitWord r.rxBufFull 10

/-- The interrupt line: a level computed from `INT` (10_state.md R57). -/
def irqLine (r : RegBlock) : Bool := (r.cmpEn && r.cmpPend) || (r.cardEn && r.cardPend)

/-- A one-bit field of `STATE` or `STATUS`, as `WAIT_UNTIL` reads it (46_bounded_waits.md R310). -/
def readBit : StatusBit → RegBlock → Bool
  | .finished, r => r.finished
  | .error, r => r.error
  | .rspTimeout, r => r.errBits.getLsbD 0
  | .rspCrc7Err, r => r.errBits.getLsbD 1
  | .stbTimeout, r => r.errBits.getLsbD 2
  | .rdataCrc16Err, r => r.errBits.getLsbD 3
  | .cardCrcTimeout, r => r.errBits.getLsbD 4
  | .crcTokenErr, r => r.errBits.getLsbD 5
  | .rspBufFull, r => r.rspBufFull
  | .txBufEmpty, r => r.txBufEmpty
  | .rxBufFull, r => r.rxBufFull

/-- The register word an awaited bit stands in (R310). -/
def bitRegister : StatusBit → PlainReg
  | .finished => .state
  | .error => .state
  | .rspTimeout => .status
  | .rspCrc7Err => .status
  | .stbTimeout => .status
  | .rdataCrc16Err => .status
  | .cardCrcTimeout => .status
  | .crcTokenErr => .status
  | .rspBufFull => .status
  | .txBufEmpty => .status
  | .rxBufFull => .status

/-- The place of an awaited bit in its register word (30_encoding.md R129, R130). -/
def bitPosition : StatusBit → Nat
  | .finished => 0
  | .error => 1
  | .rspTimeout => 0
  | .rspCrc7Err => 1
  | .stbTimeout => 2
  | .rdataCrc16Err => 3
  | .cardCrcTimeout => 4
  | .crcTokenErr => 5
  | .rspBufFull => 8
  | .txBufEmpty => 9
  | .rxBufFull => 10

/-- The value `CMD_ENCODE` gives `INT.CMP_EN` (41_command_encoder.md R183). -/
def encodeCmpEn (useInt : Bool) (rsp : RspShape) : Bool := useInt && rsp != .r136

/-- The value `CMD_ENCODE` gives bits 3:0 of `CONFIG` (R184 to R187, R189). -/
def encodeConfigBits (rsp : RspShape) (hasData : Bool) : Half :=
  (if rsp = .none then 0#16 else 0x1#16) ||| (if rsp = .r136 then 0x2#16 else 0#16) |||
    (if rsp = .r48 ∨ rsp = .r48b then 0x4#16 else 0#16) ||| (if hasData then 0x8#16 else 0#16)

/-- The value `DATA_CFG` gives `LEN_MODE`, `TRANS_MODE` and `DMA_SEL` (43_data_path_configurator.md R223 to R225). -/
def dataConfigBits (noAutostop : Bool) (dir : Dir) : Half :=
  (if noAutostop then 0x10#16 else 0#16) |||
    (match dir with
     | .rd => 0x40#16 ||| 0x80#16
     | .wr => 0x20#16)

/-- The completion interrupt is raised by an end of transaction (49_host_and_bus_interfaces.md R429). -/
def raisesCompletion (c : Cfg) (cmpEn clean : Bool) : Bool := cmpEn && (clean || c.irqOnError)

/-- The error code and the bumped delay of an error state, first match wins (47_error_classifier_tuner.md R332 to R339,
R347). `status` is `STATUS[5:0]` and `token` is `STATE.CRCTOKEN`. -/
def classifyStatus (c : Cfg) (hasData : Bool) (status : BitVec 6) (token : BitVec 3) : ErrorCode × Option DelayName :=
  if status.getLsbD 0 then (.rspTimeout, some .wrCmd)
  else if status.getLsbD 1 then (.rspCrc7, some .rdRsp)
  else if hasData && status.getLsbD 2 then (.stbTimeout, some .rdDat)
  else if hasData && status.getLsbD 3 then (.rdataCrc16, some .rdDat)
  else if hasData && status.getLsbD 4 then (.cardCrcTimeout, some .rdCrc)
  else if hasData && status.getLsbD 5 then
    (.crcToken, some (if token = c.crcTokenWriteErr then .wrDat else .rdCrc))
  else (.none, none)

/-- The error code of a stop command that failed (45_transaction_controller.md R282). -/
def classifyStop (status : BitVec 6) : ErrorCode :=
  if status.getLsbD 0 then .rspTimeout else if status.getLsbD 1 then .rspCrc7 else .waitTimeout

/-- A failed wait counts as a timeout (47_error_classifier_tuner.md R330, R348). -/
def countsAsTimeout (c : Cfg) (waitFailed : Bool) (rsp : RspShape) : Bool :=
  waitFailed && (rsp == .r136 || c.timeoutNoErrbit == .waitTimeout)

/-- The retry count of a failed command outside tuning mode (R341). -/
def retryCount (c : Cfg) (clkDiv : BitVec 12) : Nat :=
  if c.lowSpeedDiv ≤ clkDiv then c.maxRetries else c.normalRetries

/-- One delay bumped, modulo `2^DLY_W` (R349). -/
def bumpDelay (c : Cfg) (d : BitVec 3) : BitVec 3 := (d + 1) &&& delayMask c

/-- `DELAY_BUMP(x)` on the Tuning State (R349). -/
def bumpTuning (c : Cfg) (t : Tuning) : DelayName → Tuning
  | .rdCrc => { t with rdCrc := bumpDelay c t.rdCrc }
  | .rdDat => { t with rdDat := bumpDelay c t.rdDat }
  | .rdRsp => { t with rdRsp := bumpDelay c t.rdRsp }
  | .wrCmd => { t with wrCmd := bumpDelay c t.wrCmd }
  | .wrDat => { t with wrDat := bumpDelay c t.wrDat }

/-- The `TIMING` value of the Tuning State (R344). -/
def tuningValue (t : Tuning) : Half := timingValue t.rdCrc t.rdDat t.rdRsp t.wrCmd t.wrDat

/-- The engine checks the CRC7 of a response: the check is enabled and the response is not a 136-bit one
(49_host_and_bus_interfaces.md R421). -/
def checksCrc7 (config : Half) : Bool := cfgCrc7En config && !cfgRspLen config

/-- The contract on the error set `E` of an error end (49_host_and_bus_interfaces.md R421, R427, R428, entry 18): not
empty, no bit of a phase or of a check that was not due, response bits alone after a failed response phase, and the bits
of the phase that has failed; response bits before any response byte has been captured are those of no response. -/
def endContract (config : Half) (rsp : RspPhase) (dataFailed : Bool) (e : BitVec 6) : Bool :=
  e != 0#6 && (!e.getLsbD 0 || cfgRspEn config) && (!e.getLsbD 1 || (cfgRspEn config && checksCrc7 config)) &&
    (e &&& 0x3C#6 == 0#6 || ((cfgDataPhase config).isSome && e &&& 0x03#6 == 0#6)) &&
    (rsp != .timedOut || e.getLsbD 0) && (rsp != .badCrc || e.getLsbD 1) &&
    (rsp != .waiting || e &&& 0x03#6 == 0#6 || e.getLsbD 0) &&
    (!dataFailed || rsp == .timedOut || rsp == .badCrc || e &&& 0x3C#6 != 0#6)

end Sys2Proof.Machine
end

