-- ==== Sys2Proof/Machine/Ops.lean ====
section
/-! DEFINITION. The shared operations: named updates of the state, agent contexts, memory, register accesses, the bus
engine's trigger and soft reset, bounded waits, and the three operations that stand for taking an exception and returning
from it: recording an error (60_exceptions.md R451), interrupt entry (R462) and the return (R463). -/

namespace Sys2Proof.Machine

/-- The outcome of an operation. -/
abbrev Res := Host.Outcome State Fault Refusal

/-- Go on with `f` after a next state. -/
def andThen (o : Res) (f : State → Res) : Res :=
  match o with
  | .next s => f s
  | .fault r => .fault r
  | .refused r => .refused r

/-! ### Named updates -/

def State.setReg (s : State) (r : RegBlock) : State := { s with reg := r }
def State.setBus (s : State) (b : BusEngine) : State := { s with bus := b }
def State.setHost (s : State) (h : HostCtx) : State := { s with host := h }
def State.setPlat (s : State) (p : Platform) : State := { s with plat := p }
def State.setDmaMem (s : State) (m : Memory) : State := { s with dmaMem := m }
def State.setBufMem (s : State) (m : Memory) : State := { s with bufMem := m }
def State.setNow (s : State) (n : Nat) : State := { s with now := n }
def State.setDraws (s : State) (n : Nat) : State := { s with draws := n }
def State.setCancels (s : State) (ts : List Nat) : State := { s with cancels := ts }
def State.setActor (s : State) (a : Agent) : State := { s with actor := a }
def State.setSched (s : State) (es : List Event) : State := { s with sched := es }
def State.setP (s : State) (p : List Ctx) : State := { s with p := p }
def State.setI (s : State) (c : Ctx) : State := { s with i := c }
def State.setW (s : State) (c : Ctx) : State := { s with w := c }

/-- Send `o` outside. -/
def State.emit (s : State) (o : Output) : State := { s with out := o :: s.out }

/-! ### Agent contexts -/

/-- Entry `n` of a list that goes on with `d` for ever. -/
def entryAt {α : Type} (d : α) : List α → Nat → α
  | [], _ => d
  | x :: _, 0 => x
  | _ :: xs, n + 1 => entryAt d xs n

/-- The list with entry `n` replaced. -/
def setEntryAt {α : Type} (d : α) : List α → Nat → α → List α
  | [], 0, y => [y]
  | [], n + 1, y => d :: setEntryAt d [] n y
  | _ :: xs, 0, y => y :: xs
  | x :: xs, n + 1, y => x :: setEntryAt d xs n y

/-- The context of thread `n`; a thread that has never run is idle. -/
def ctxAt (l : List Ctx) (n : Nat) : Ctx := entryAt Ctx.idle l n

/-- The threads with the context of thread `n` replaced. -/
def setCtxAt (l : List Ctx) (n : Nat) (c : Ctx) : List Ctx := setEntryAt Ctx.idle l n c

/-- The context of an agent. The bus engine has none. -/
def getCtx (s : State) : Agent → Ctx
  | .p tid => ctxAt s.p tid
  | .i => s.i
  | .w => s.w
  | .b => Ctx.idle

/-- The state with an agent's context replaced. -/
def setCtx (s : State) (a : Agent) (c : Ctx) : State :=
  match a with
  | .p tid => s.setP (setCtxAt s.p tid c)
  | .i => s.setI c
  | .w => s.setW c
  | .b => s

/-- The acting agent's context. -/
def actorCtx (s : State) : Ctx := getCtx s s.actor

/-- An operation of the acting agent returns the word `w`. -/
def returnWord (w : Word) (s : State) : State := setCtx s s.actor { actorCtx s with word := w }

/-- An operation of the acting agent returns 0 or -1 (46_bounded_waits.md R316). -/
def returnCode (r : Int) (s : State) : State := setCtx s s.actor { actorCtx s with ret := r }

/-- Put `fs` in front of what the acting agent still has to do. -/
def pushFrames (fs : List Frame) (s : State) : State :=
  setCtx s s.actor { actorCtx s with stack := fs ++ (actorCtx s).stack }

/-! ### Memory (20_memory.md R80, R82) -/

/-- One byte of a memory. -/
def Memory.read : Memory → Nat → Byte
  | [], _ => Memory.unlisted
  | (a, b) :: m, k => if k = a then b else Memory.read m k

/-- Remove the entry of address `k` of a memory whose addresses rise. -/
def Memory.erase : Memory → Nat → Memory
  | [], _ => []
  | (a, b) :: m, k => if k = a then m else if k < a then (a, b) :: m else (a, b) :: Memory.erase m k

/-- List the byte `v` at address `k` of a memory whose addresses rise. -/
def Memory.insert : Memory → Nat → Byte → Memory
  | [], k, v => [(k, v)]
  | (a, b) :: m, k, v =>
    if k = a then (k, v) :: m else if k < a then (k, v) :: (a, b) :: m else (a, b) :: Memory.insert m k v

/-- Write one byte, keeping the canonical form: no entry holds the unlisted byte. -/
def Memory.write (m : Memory) (k : Nat) (v : Byte) : Memory :=
  if v = Memory.unlisted then Memory.erase m k else Memory.insert m k v

/-- The key of byte `off` of buffer `buf` in the buffer space. -/
def bufKey (buf : Word) (off : Nat) : Nat := buf.toNat + 2 ^ 32 * off

/-- `MemRead((buf, off), 4)`: the byte at `off` in bits 7:0 (R82). -/
def readBufWord (m : Memory) (buf : Word) (off : Nat) : Word :=
  wordOfBytes (m.read (bufKey buf off)) (m.read (bufKey buf (off + 1))) (m.read (bufKey buf (off + 2)))
    (m.read (bufKey buf (off + 3)))

/-- `MemWrite((buf, off), 4, w)` (R82). -/
def writeBufWord (m : Memory) (buf : Word) (off : Nat) (w : Word) : Memory :=
  (((m.write (bufKey buf off) (byteOfWord w 0)).write (bufKey buf (off + 1)) (byteOfWord w 1)).write
    (bufKey buf (off + 2)) (byteOfWord w 2)).write (bufKey buf (off + 3)) (byteOfWord w 3)

/-- The keys of the bytes of a scatter list, in bus order (R82). -/
def bufKeys : List Segment → List Nat
  | [] => []
  | g :: gs => (List.range g.len).map (bufKey g.buf) ++ bufKeys gs

/-- The bytes at `ks`. -/
def readKeys (m : Memory) (ks : List Nat) : List Byte := ks.map m.read

/-- Write the bytes `bs` at `ks`, as long as both last. -/
def writeKeys (m : Memory) : List Nat → List Byte → Memory
  | k :: ks, b :: bs => writeKeys (m.write k b) ks bs
  | _, _ => m

/-- The bytes at `ks` take values the spec leaves open (93_implementation_defined.md U10, entries 14, 33). -/
def freeBytes (ks : List Nat) (s : State) : State :=
  (s.setBufMem (writeKeys s.bufMem ks ((List.range ks.length).map fun j => Config.freeByte (s.draws + j)))).setDraws
    (s.draws + ks.length)

/-! ### The slots of the descriptor table (10_state.md R46) -/

/-- Slot `k` of the descriptor table. -/
def RegBlock.slot (r : RegBlock) (k : Nat) : Slot := entryAt Slot.zero r.slots k

/-- The register block with slot `k` replaced. -/
def RegBlock.setSlot (r : RegBlock) (k : Nat) (g : Slot) : RegBlock := { r with slots := setEntryAt Slot.zero r.slots k g }

/-- Slot `k` exists (R38, R39). -/
def slotMapped (s : State) (k : Nat) : Bool := decide (k < s.cfg.maxSeg)

/-- The register stands at a mapped offset (R39). -/
def regMapped (s : State) : Reg → Bool
  | .plain (.dmaBase k) => slotMapped s k
  | .plain (.dmaSize k) => slotMapped s k
  | _ => true

/-! ### Register reads (40_register_access.md R162) -/

/-- A word the spec leaves open, and the state that has used it up. -/
def drawWord (s : State) : Word × State := (Config.freeWord s.draws, s.setDraws (s.draws + 1))

/-- The engine fills the empty window from the response stream while six bytes remain
(42_response_decoder.md R206). -/
def refillWindow (s : State) : State :=
  match s.bus.rspStream with
  | w0 :: w1 :: w2 :: w3 :: w4 :: w5 :: rest =>
    if s.reg.rspBufFull then s
    else (s.setReg { s.reg with rspHi := windowHi w0 w1 w2 w3, rspLo := windowLo w4 w5, rspBufFull := true }).setBus
      { s.bus with rspStream := rest }
  | _ => s

/-- A read of `RSPBUF_LO` consumes the window (10_state.md R25). -/
def consumeWindow (s : State) : State := refillWindow (s.setReg { s.reg with rspBufFull := false })

/-- A read of `DATA_RX` pops a word (10_state.md R36). -/
def popRx (s : State) : Word × State :=
  match s.bus.rxFifo with
  | w :: rest => (w, (s.setReg { s.reg with rxBufFull := false }).setBus { s.bus with rxFifo := rest })
  | [] => drawWord s

/-- The word a register access returns, with the side effects of 20_memory.md R85 (R162). -/
def readReg (r : Reg) (s : State) : Word × State :=
  match r with
  | .plain .cmdbuf => (s.reg.cmdbuf, s)
  | .plain .cmdargLo => (s.reg.cmdargLo.setWidth 32, s)
  | .plain .rspbufHi => if s.reg.rspBufFull then (s.reg.rspHi, s) else drawWord s
  | .plain .rspbufLo =>
    if s.reg.rspBufFull then (s.reg.rspLo.setWidth 32, consumeWindow s)
    else ((drawWord s).1 &&& 0xFFFF#32, (drawWord s).2)
  | .plain .state => (stateView s.reg, s)
  | .plain .status => (statusView s.reg, s)
  | .plain .blksize => (s.reg.blksize, s)
  | .plain .blkcnt => (s.reg.blkcnt, s)
  | .plain .dataTx => drawWord s
  | .plain .dataRx => if s.reg.rxBufFull then popRx s else drawWord s
  | .plain (.dmaBase k) => ((s.reg.slot k).addr, s)
  | .plain (.dmaSize k) => ((s.reg.slot k).sectors.setWidth 32, s)
  | .masked .config => (s.reg.config.setWidth 32, s)
  | .masked .ctrl => (0#32, s)
  | .masked .int => (intView s.reg, s)
  | .masked .timing => (s.reg.timing.setWidth 32, s)
  | .masked .clkcfg => (s.reg.clkDiv.setWidth 32, s)

/-- `REG_RD(reg)`: the acting agent reads one register word (R162). -/
def regRead (r : Reg) (s : State) : Res :=
  if regMapped s r then .next (returnWord (readReg r s).1 (readReg r s).2) else .refused .unmappedOffset

/-! ### The bus engine's trigger and soft reset (49_host_and_bus_interfaces.md R420, R431) -/

/-- A write to a register the engine owns while a transaction is in flight is a refusal (70_reset_and_hazards.md R510). -/
def whenIdle (s : State) (o : Res) : Res :=
  match s.bus.phase with
  | .idle => o
  | .busy => .refused .busBusy

/-- The copies the engine takes at a trigger (R420). -/
def latchOf (r : RegBlock) : Latched where
  cmdbuf := r.cmdbuf
  cmdargLo := r.cmdargLo
  config := r.config
  blksize := r.blksize
  blkcnt := r.blkcnt
  timing := r.timing

/-- The register block after `B_TRIGGER` (R420). -/
def triggeredReg (r : RegBlock) : RegBlock :=
  { r with finished := false, rspBufFull := false, txBufEmpty := true, rxBufFull := false }

/-- The engine after `B_TRIGGER` (R420). -/
def triggeredBus (r : RegBlock) (b : BusEngine) : BusEngine :=
  { b with rspStream := [], txFifo := [], rxFifo := [], phase := .busy, latched := some (latchOf r), dmaSlot := 0,
           dmaOff := 0, rspPhase := if cfgRspEn r.config then .waiting else .done, moved := 0, dataFailed := false,
           sent := [] }

/-- The state after `B_TRIGGER` (R420). -/
def triggered (s : State) : State :=
  ((s.setReg (triggeredReg s.reg)).setBus (triggeredBus s.reg s.bus)).emit
    (.cmd (sentOpcode s.reg.cmdbuf) (sentArg s.reg.cmdbuf s.reg.cmdargLo))

/-- The transfer mode is the reserved one of a data transaction (R420, X3). -/
def reservedMode (config : Half) : Bool := cfgAutoRsp config && cfgTransMode config == 0b11#2

/-- `B_TRIGGER` (R420). The latched `LEN_MODE` and `RX4B_EN` change nothing the engine does (entries 43, 44). -/
def trigger (s : State) : Res :=
  whenIdle s
    (if s.now < s.bus.readyAt then .refused .settling
     else if reservedMode s.reg.config then .refused .reservedTransMode
     else .next (triggered s))

/-- The register block after `B_SW_RESET` (R431). `token` is what `STATE.CRCTOKEN` then holds (U8). -/
def softResetReg (token : BitVec 3) (r : RegBlock) : RegBlock :=
  { r with finished := false, error := false, errBits := 0#6, crcToken := token, rspBufFull := false,
           rxBufFull := false, txBufEmpty := true, cmpPend := false }

/-- The engine after `B_SW_RESET`; a trigger is legal from `readyAt` on (R431). -/
def softResetBus (readyAt : Nat) (b : BusEngine) : BusEngine :=
  { b with rspStream := [], txFifo := [], rxFifo := [], phase := .idle, latched := none, dmaSlot := 0, dmaOff := 0,
           rspPhase := .done, moved := 0, dataFailed := false, sent := [], readyAt := readyAt }

/-- `B_SW_RESET` (R431). -/
def softReset (s : State) : State :=
  ((s.setReg (softResetReg (Config.freeToken s.draws) s.reg)).setBus
    (softResetBus (s.now + s.cfg.settleDelay) s.bus)).setDraws (s.draws + 1)

/-! ### Register writes (40_register_access.md R163, R164, R167) -/

/-- A masked write of `CTRL`: the soft reset is performed first (R167). -/
def writeCtrl (mask value : Half) (s : State) : Res :=
  if (mask &&& value).getLsbD 0 then trigger (if (mask &&& value).getLsbD 1 then softReset s else s)
  else .next (if (mask &&& value).getLsbD 1 then softReset s else s)

/-- `INT` after a masked write (30_encoding.md R128, R167). -/
def writtenInt (mask value : Half) (r : RegBlock) : RegBlock :=
  { r with
    cmpEn := if mask.getLsbD 0 then value.getLsbD 0 else r.cmpEn
    cmpPend := if (mask &&& value).getLsbD 2 then false else r.cmpPend
    cardEn := if mask.getLsbD 4 then value.getLsbD 4 else r.cardEn
    cardPend := if (mask &&& value).getLsbD 6 then false else r.cardPend }

/-- `CONFIG` after a masked write (R164). -/
def writtenConfig (mask value : Half) (r : RegBlock) : RegBlock :=
  { r with config := mergeHalf r.config mask value configWritable }

/-- `TIMING` after a masked write (R164). -/
def writtenTiming (c : Cfg) (mask value : Half) (r : RegBlock) : RegBlock :=
  { r with timing := mergeHalf r.timing mask value (timingWritable c) }

/-- `CLKCFG` after a masked write (R164). -/
def writtenClkcfg (mask value : Half) (r : RegBlock) : RegBlock :=
  { r with clkDiv := (mergeHalf (r.clkDiv.setWidth 16) mask value clkcfgWritable).setWidth 12 }

/-- `REG_WR_MASKED(reg, W)` (R164). A write of `CONFIG`, `TIMING` or `CLKCFG` while the engine is busy is refused before its
mask is looked at, a zero mask included (entry 45). -/
def regWriteMasked (m : MaskedReg) (w : Word) (s : State) : Res :=
  match m with
  | .config => whenIdle s (.next (s.setReg (writtenConfig (maskHalf w) (valueHalf w) s.reg)))
  | .ctrl => writeCtrl (maskHalf w) (valueHalf w) s
  | .int => .next (s.setReg (writtenInt (maskHalf w) (valueHalf w) s.reg))
  | .timing => whenIdle s (.next (s.setReg (writtenTiming s.cfg (maskHalf w) (valueHalf w) s.reg)))
  | .clkcfg => whenIdle s (.next (s.setReg (writtenClkcfg (maskHalf w) (valueHalf w) s.reg)))

/-- A write of `DATA_TX` pushes a word (10_state.md R35). -/
def pushTx (w : Word) (s : State) : Res :=
  if s.reg.txBufEmpty then
    .next ((s.setReg { s.reg with txBufEmpty := false }).setBus { s.bus with txFifo := s.bus.txFifo ++ [w] })
  else .refused .txNotEmpty

/-- A write of a slot's base register (30_encoding.md R134). -/
def writeSlotAddr (k : Nat) (w : Word) (s : State) : Res :=
  if slotMapped s k then
    whenIdle s (.next (s.setReg (s.reg.setSlot k { s.reg.slot k with addr := w &&& addrWritable s.cfg })))
  else .refused .unmappedOffset

/-- A write of a slot's size register (R134). -/
def writeSlotSectors (k : Nat) (w : Word) (s : State) : Res :=
  if slotMapped s k then
    whenIdle s (.next (s.setReg (s.reg.setSlot k { s.reg.slot k with sectors := w.setWidth 16 })))
  else .refused .unmappedOffset

/-- `REG_WR(reg, W)` on a plain register (R163). A write to a read-only register is ignored. -/
def regWrite (r : PlainReg) (w : Word) (s : State) : Res :=
  match r with
  | .cmdbuf => whenIdle s (.next (s.setReg { s.reg with cmdbuf := w }))
  | .cmdargLo => whenIdle s (.next (s.setReg { s.reg with cmdargLo := w.setWidth 8 }))
  | .rspbufHi => .next s
  | .rspbufLo => .next s
  | .state => .next s
  | .status => .next s
  | .blksize => whenIdle s (.next (s.setReg { s.reg with blksize := w &&& blksizeWritable s.cfg }))
  | .blkcnt => whenIdle s (.next (s.setReg { s.reg with blkcnt := w &&& blkcntWritable s.cfg }))
  | .dataTx => pushTx w s
  | .dataRx => .next s
  | .dmaBase k => writeSlotAddr k w s
  | .dmaSize k => writeSlotSectors k w s

/-- A write of a register of either kind (30_encoding.md R141). -/
def regWriteAny (r : Reg) (w : Word) (s : State) : Res :=
  match r with
  | .plain q => regWrite q w s
  | .masked m => regWriteMasked m w s

/-! ### The typed accessors (40_register_access.md R165, R166, 30_encoding.md R145) -/

/-- `read_field(reg, F)`: one `REG_RD`, with what it consumes, then `FIELD_GET`; the acting agent gets the field (R165). -/
def readFieldOf (r : Reg) (f : Field) (s : State) : Res :=
  if regMapped s r then .next (returnWord (readField (readReg r s).1 f) (readReg r s).2) else .refused .unmappedOffset

/-- `write_field_masked(reg, F, v)` on a masked register: one masked write (R166). -/
def writeFieldMasked (m : MaskedReg) (f : Field) (v : Half) (s : State) : Res := regWriteMasked m (writeFieldWord f v) s

/-- `write_field_masked(reg, F, v)` on any register: refused on a plain one (R166). -/
def writeFieldMaskedOf (r : Reg) (f : Field) (v : Half) (s : State) : Res :=
  match r with
  | .masked m => writeFieldMasked m f v s
  | .plain _ => .refused .plainRegister

/-- The plain registers with a single field, which are written whole (30_encoding.md R145, R166). R166's list leaves out
`RSPBUF_HI`, `RSPBUF_LO`, `DATA_TX` and `DATA_RX`, which have one field each too: that they are written whole, without
the read that would consume the window or a word, is read from R145 (DEDUCED, entry 50). -/
def hasOneField : PlainReg → Bool
  | .cmdargLo => true
  | .rspbufHi => true
  | .rspbufLo => true
  | .dataTx => true
  | .dataRx => true
  | .blksize => true
  | .blkcnt => true
  | .dmaBase _ => true
  | .dmaSize _ => true
  | _ => false

/-- `write_field(reg, F, v)` on a plain register: one write where `F` is its only field, else one read and one write
(R166). -/
def writeField (r : PlainReg) (f : Field) (v : Word) (s : State) : Res :=
  if hasOneField r then regWrite r (v <<< f.lo) s
  else if regMapped s (.plain r) then
    regWrite r (fieldSetWord (readReg (.plain r) s).1 f.lo f.width v) (readReg (.plain r) s).2
  else .refused .unmappedOffset

/-- `reg.F <- v`: by the register's kind (00_scope.md R10, 30_encoding.md R145). -/
def assignField (r : Reg) (f : Field) (v : Word) (s : State) : Res :=
  match r with
  | .masked m => writeFieldMasked m f (v.setWidth 16) s
  | .plain q => writeField q f v s

/-- The write `0x00010001` of `CTRL` (45_transaction_controller.md R279). -/
def triggerWrite (s : State) : Res := regWriteMasked .ctrl (mw 0x0001#16 0x0001#16) s

/-- The write `0x00020002` of `CTRL` (47_error_classifier_tuner.md R342). -/
def softResetWrite (s : State) : Res := regWriteMasked .ctrl (mw 0x0002#16 0x0002#16) s

/-! ### Bounded waits (46_bounded_waits.md R310, R315) -/

/-- What one poll iteration finds. -/
inductive Poll where
  | ready
  | failed
  | again
deriving DecidableEq, Repr

/-- One poll iteration: the awaited bit, then the error-state bit, then the deadline (R315). -/
def pollOnce (b : StatusBit) (deadline : Nat) (s : State) : Poll :=
  if readBit b s.reg then .ready
  else if s.reg.error then .failed
  else if deadline ≤ s.now then .failed
  else .again

/-- A wait of the acting agent returns -1 (R316, R318). A wait that an agent started by itself sets the flag
too (entry 49). -/
def waitFailure (s : State) : State := returnCode (-1) (s.setHost { s.host with waitFailed := true })

/-- The deadline of a wait that starts now (R317). -/
def deadlineOf (s : State) : Nat := s.now + s.cfg.waitTimeout

/-- One poll iteration of the acting agent: go on with `done` after 0, with `fail` after -1; otherwise `again` is what
its next turn does. -/
def pollThen (b : StatusBit) (deadline : Nat) (again : Frame) (done fail : State → Res) (s : State) : Res :=
  match pollOnce b deadline s with
  | .ready => done (returnCode 0 s)
  | .failed => fail (waitFailure s)
  | .again => .next (pushFrames [again] s)

/-- `WAIT_UNTIL` with its deadline already taken (R310). -/
def waitBit (b : StatusBit) (deadline : Nat) (s : State) : Res :=
  pollThen b deadline (.poll b deadline) .next .next s

/-! ### The outstanding Request -/

/-- `req.cmd` or `req.stop` of the outstanding Request. -/
def selectCmd (r : Request) : CmdSel → Option Command
  | .primary => some r.cmd
  | .stop => r.stop

/-- A Command of the outstanding Request. -/
def currentCmd (s : State) (c : CmdSel) : Option Command := s.host.mrq.bind fun r => selectCmd r c

/-- The Request with one of its Commands replaced. -/
def Request.setCmd (r : Request) (c : CmdSel) (k : Command) : Request :=
  match c with
  | .primary => { r with cmd := k }
  | .stop => { r with stop := some k }

/-- Replace a Command of the outstanding Request. -/
def setCurrentCmd (c : CmdSel) (k : Command) (s : State) : State :=
  s.setHost { s.host with mrq := s.host.mrq.map fun r => Request.setCmd r c k }

/-- The Data Descriptor of the outstanding Request. -/
def currentData (s : State) : Option DataDesc := s.host.mrq.bind fun r => r.data

/-- Replace the Data Descriptor of the outstanding Request. -/
def setCurrentData (d : DataDesc) (s : State) : State :=
  s.setHost { s.host with mrq := s.host.mrq.map fun r => { r with data := some d } }

/-! ### Recording an error: the block's synchronous exception (60_exceptions.md R451) -/

/-- A Request with the error code of a classified failure (47_error_classifier_tuner.md R340): the same code in the
Command and, with data, in the Data Descriptor, whose byte count becomes 0. -/
def raisedRequest (e : ErrorCode) (r : Request) : Request :=
  { r with cmd := { r.cmd with error := e }
           data := r.data.map fun d => { d with error := e, bytesXfered := 0 } }

/-- The Request with a retry count (R341). -/
def retriedRequest (n : Nat) (r : Request) : Request := { r with cmd := { r.cmd with retries := n } }

/-- A Request whose transaction succeeded (R331). -/
def succeededRequest (r : Request) : Request :=
  { r with data := r.data.map fun d => { d with error := .none, bytesXfered := d.size } }

/-- `raise e`: record an error in the outstanding Request. Not a control transfer: the operation that raised it goes on
(R451). -/
def raiseError (e : ErrorCode) (s : State) : State :=
  s.setHost { s.host with mrq := s.host.mrq.map (raisedRequest e) }

/-- Set the Tuning State's `need_tuning` (R345). -/
def setNeedTuning (e : ErrorCode) (s : State) : State :=
  s.setHost { s.host with tune := { s.host.tune with needTuning := e } }

/-! ### Interrupt entry (48_interrupt_deferred.md R371, 60_exceptions.md R462) -/

/-- The arms an `INT` word selects, completion first (R371). -/
def irqArms (v : Word) : List Frame :=
  (if v.getLsbD 0 && v.getLsbD 1 then [Frame.call .irqCmdDone] else []) ++
    (if v.getLsbD 4 && v.getLsbD 5 then [Frame.call .irqCard] else [])

/-- Interrupt entry: one read of `INT`, then its arms. Nothing is saved (R462). A second entry does not start while the
handler runs (R458, entry 24). -/
def enterInterrupt (s : State) : State :=
  match s.i.stack with
  | [] => pushFrames (irqArms (intView s.reg)) (returnWord (intView s.reg) s)
  | _ :: _ => s

/-! ### The return: the tail of a finished request (60_exceptions.md R463) -/

/-- The Host after the tail: the pointer cleared, the machine `Idle`, the mutex released (R463). -/
def releasedHost (h : HostCtx) : HostCtx := { h with mrq := none, tc := .idle, lock := .free }

/-- The tail of a transaction: clear the pointer, go `Idle`, release the mutex, notify (R463). With no outstanding
Request it does nothing. -/
def finishRequest (s : State) : State :=
  match s.host.mrq with
  | none => s
  | some r => pushFrames [.call (.notify r)] (s.setHost (releasedHost s.host))

/-! ### Locks (10_state.md R50, R51) -/

/-- Run `o` when the submission mutex is free; otherwise `i` blocks in its acquire (R50, entry 16). -/
def whenUnlocked (i : Instr) (s : State) (o : Res) : Res :=
  match s.host.lock with
  | .free => o
  | .held => .next (pushFrames [.blocked i] s)

/-- Run `o` when the spinlock is free; otherwise `i` spins (R51, entry 39). -/
def whenIrqUnlocked (i : Instr) (s : State) (o : Res) : Res :=
  match s.host.irqLock with
  | .free => o
  | .held => .next (pushFrames [.call i] s)

end Sys2Proof.Machine
end

