-- ==== Sys2Proof/Machine/BusEngine.lean ====
section
/-! DEFINITION. The bus engine's steps (49_host_and_bus_interfaces.md R420 to R432). Each takes the card oracle's answer
as its operand (R422, entry 17). A step that its rule does not enable is not taken: the machine stays as it is
(00_scope.md R12, entry 23). -/

namespace Sys2Proof.Machine

/-- The latched registers of the transaction in flight. -/
def inFlight (s : State) : Option Latched :=
  match s.bus.phase with
  | .busy => s.bus.latched
  | .idle => none

/-- The data bytes of a transaction: `(BLK_SIZE_M1 + 1) * (BLK_CNT_M1 + 1)` (R423, R424). -/
def transferBytes (l : Latched) : Nat := (l.blksize.toNat + 1) * (l.blkcnt.toNat + 1)

/-- The response phase has not failed (R427). -/
def responseOk (p : RspPhase) : Bool := p == .waiting || p == .done

/-- `B_TRIGGER` (R420). -/
def execBTrigger (s : State) : Res := trigger s

/-! ### The response phase (R421) -/

/-- The response bytes of a length have arrived; a bad CRC7 counts where the engine checks it (R421). -/
def captureResponse (l : Latched) (bs : List Byte) (crcOk : Bool) (s : State) : State :=
  refillWindow (s.setBus { s.bus with rspStream := bs
                                      rspPhase := if crcOk || !checksCrc7 l.config then .done else .badCrc })

/-- `B_RSP` (R421): 6 bytes, or 17 with a pad byte of free value behind them. -/
def execBRsp (a : RspAnswer) (s : State) : Res :=
  match inFlight s with
  | none => .next s
  | some l =>
    if s.bus.rspPhase ≠ .waiting then .next s
    else
      match a with
      | .nothing => .next (s.setBus { s.bus with rspPhase := .timedOut })
      | .bytes bs ok =>
        if cfgRspLen l.config then
          (if bs.length = 17 then
            .next ((captureResponse l (bs ++ [Config.freeByte s.draws]) ok s).setDraws (s.draws + 1))
           else .fault .busContract)
        else if bs.length = 6 then .next (captureResponse l bs ok s)
        else .fault .busContract

/-! ### The data phase through the descriptor table (R424, R425) -/

/-- The slot of a position, if there is one (R425). -/
def slotAt (s : State) (k : Nat) : Option Slot := if slotMapped s k then some (s.reg.slot k) else none

/-- The address of the next DMA byte, if the slots give one (R425). -/
def dmaAddress (s : State) : Option Nat :=
  match slotAt s s.bus.dmaSlot with
  | none => none
  | some g =>
    if g.sectors.toNat = 0 then none
    else if g.addr.toNat + s.bus.dmaOff < 2 ^ s.cfg.addrW then some (g.addr.toNat + s.bus.dmaOff)
    else none

/-- The position behind a byte of slot `g` (R425). -/
def advancePosition (sectorSize : Nat) (g : Slot) (b : BusEngine) : BusEngine :=
  if b.dmaOff + 1 = g.sectors.toNat * sectorSize then { b with dmaSlot := b.dmaSlot + 1, dmaOff := 0 }
  else { b with dmaOff := b.dmaOff + 1 }

/-- The state behind one DMA byte: the position advances and the byte counts as moved (R425). -/
def countByte (s : State) : State :=
  match slotAt s s.bus.dmaSlot with
  | none => s
  | some g => s.setBus { advancePosition s.cfg.sectorSize g s.bus with moved := s.bus.moved + 1 }

/-- The byte at position `moved` has been written to memory: it counts among those that a later `dma_unmap` hands back,
whatever becomes of the engine before (20_memory.md R90, entry 14). -/
def noteArrival (s : State) : State := s.setBus { s.bus with arrived := max s.bus.arrived (s.bus.moved + 1) }

/-- Read data moves to the DMA address space, byte by byte (R424). -/
def dmaStore : List Byte → State → Res
  | [], s => .next s
  | b :: bs, s =>
    match dmaAddress s with
    | none => .refused .slotWalk
    | some a => dmaStore bs (countByte (noteArrival (s.setDmaMem (s.dmaMem.write a b))))

/-- `n` bytes of the DMA address space go to the card (R424). -/
def dmaLoad : Nat → State → Res
  | 0, s => .next s
  | n + 1, s =>
    match dmaAddress s with
    | none => .refused .slotWalk
    | some a => dmaLoad n (countByte (s.setBus { s.bus with sent := s.bus.sent ++ [s.dmaMem.read a] }))

/-- The data phase can take a step: it is due, and neither it nor the response phase has failed (R424, R427,
entry 18). -/
def dataEnabled (l : Latched) (pio : Bool) (s : State) : Bool :=
  (cfgDataPhase l.config).isSome && cfgPioEn l.config == pio && responseOk s.bus.rspPhase && !s.bus.dataFailed

/-- The data phase fails: the engine stops moving data (R424, R426). -/
def failData (s : State) : State := s.setBus { s.bus with dataFailed := true }

/-- A DMA step of a transaction in flight (R424). -/
def dmaStep (l : Latched) (a : DmaAnswer) (s : State) : Res :=
  match cfgDataPhase l.config, a with
  | _, .fail => .next (failData s)
  | some .rd, .read bs =>
    if bs ≠ [] ∧ s.bus.moved + bs.length ≤ transferBytes l then dmaStore bs s else .fault .busContract
  | some .wr, .take n =>
    if 0 < n ∧ s.bus.moved + n ≤ transferBytes l then dmaLoad n s else .fault .busContract
  | _, _ => .fault .busContract

/-- `B_DATA_DMA` (R424). -/
def execBDataDma (a : DmaAnswer) (s : State) : Res :=
  match inFlight s with
  | none => .next s
  | some l =>
    if ¬ dataEnabled l false s then .next s
    else if cfgDmaSel l.config ≠ (cfgDataPhase l.config == some .rd) then .refused .dmaSelMismatch
    else dmaStep l a s

/-! ### The data phase through the data registers (R423) -/

/-- The next four bytes of read data stand at `DATA_RX` (R423), whatever `RX4B_EN` was latched (entry 44). -/
def presentWord (y0 y1 y2 y3 : Byte) (s : State) : State :=
  (s.setReg { s.reg with rxBufFull := true }).setBus
    { s.bus with rxFifo := s.bus.rxFifo ++ [wordOfBytes y0 y1 y2 y3], moved := s.bus.moved + 4 }

/-- The word pushed through `DATA_TX` goes to the card, bits 7:0 first (R423). -/
def takeWord (w : Word) (rest : List Word) (s : State) : State :=
  (s.setReg { s.reg with txBufEmpty := true }).setBus
    { s.bus with txFifo := rest, moved := s.bus.moved + 4, sent := s.bus.sent ++ bytesOfWord w }

/-- A PIO step of a transaction in flight (R423). -/
def pioStep (l : Latched) (a : PioAnswer) (s : State) : Res :=
  match cfgDataPhase l.config, a with
  | _, .fail => .next (failData s)
  | some .rd, .read y0 y1 y2 y3 =>
    if s.bus.moved < transferBytes l ∧ s.reg.rxBufFull = false then .next (presentWord y0 y1 y2 y3 s)
    else .next s
  | some .wr, .take =>
    match s.reg.txBufEmpty, s.bus.txFifo with
    | false, w :: rest => .next (takeWord w rest s)
    | _, _ => .next s
  | _, _ => .fault .busContract

/-- `B_DATA_PIO` (R423). -/
def execBDataPio (a : PioAnswer) (s : State) : Res :=
  match inFlight s with
  | none => .next s
  | some l => if dataEnabled l true s then pioStep l a s else .next s

/-! ### The end of a transaction (R428, R429) -/

/-- The data phase is complete, or none is due (R423, R424, R427). It counts bytes: a word pushed through `DATA_TX` that
the transfer does not need may still stand in `bus.tx_fifo`, where 20_memory.md R91 has the FIFOs drained at a clean end
(DESIGN CHOICE, entry 30). -/
def dataComplete (l : Latched) (s : State) : Bool :=
  match cfgDataPhase l.config with
  | none => true
  | some d =>
    !s.bus.dataFailed && decide (transferBytes l ≤ s.bus.moved) && (!cfgPioEn l.config || d == .wr || !s.reg.rxBufFull)

/-- `CRCTOKEN` at an end: the token of a token error; otherwise a value the spec leaves open, unless an earlier error
still holds one (R428, U8, entry 10). -/
def endToken (e : BitVec 6) (token : BitVec 3) (s : State) : BitVec 3 :=
  if e.getLsbD 5 then token else if s.reg.errBits.getLsbD 5 then s.reg.crcToken else Config.freeToken s.draws

/-- The register block after a clean end (R428, R429). -/
def cleanEndReg (s : State) : RegBlock :=
  { s.reg with finished := true, crcToken := endToken 0#6 0#3 s
               cmpPend := s.reg.cmpPend || raisesCompletion s.cfg s.reg.cmpEn true }

/-- The register block after an error end (R428, R429). -/
def errorEndReg (e : BitVec 6) (token : BitVec 3) (finished : Bool) (s : State) : RegBlock :=
  { s.reg with finished := finished, error := true, errBits := s.reg.errBits ||| e, crcToken := endToken e token s
               cmpPend := s.reg.cmpPend || raisesCompletion s.cfg s.reg.cmpEn false }

/-- The end of a transaction with the register block `r` (R428). -/
def endWith (r : RegBlock) (s : State) : State :=
  ((s.setReg r).setBus { s.bus with phase := .idle }).setDraws (s.draws + 1)

/-- An error end is enabled: the response phase has failed or fails with it, the data phase fails with it, or all phases are
complete (R428, entry 18). -/
def errorEndEnabled (l : Latched) (e : BitVec 6) (s : State) : Bool :=
  s.bus.rspPhase != .done || e &&& 0x3C#6 != 0#6 || dataComplete l s

/-- `B_END` (R428). No stop command is sent by the engine, whatever `LEN_MODE` was latched (entry 43). -/
def execBEnd (a : EndAnswer) (s : State) : Res :=
  match inFlight s with
  | none => .next s
  | some l =>
    match a with
    | .ok =>
      if s.bus.rspPhase = .done ∧ dataComplete l s then .next (endWith (cleanEndReg s) s)
      else .next s
    | .err e token finished =>
      if ¬ endContract l.config s.bus.rspPhase s.bus.dataFailed e then .fault .busContract
      else if errorEndEnabled l e s then .next (endWith (errorEndReg e token finished s) s)
      else .next s

/-- `B_CARD_IRQ` (R430). -/
def execBCardIrq (s : State) : Res := .next (s.setReg { s.reg with cardPend := true })

/-- `B_SW_RESET` (R431). -/
def execBSwReset (s : State) : Res := .next (softReset s)

end Sys2Proof.Machine
end

