-- ==== Sys2Proof/Machine/CommandEncoder.lean ====
section
/-! DEFINITION. Family 41, the Command Encoder (41_command_encoder.md). -/

namespace Sys2Proof.Machine

/-- The register writes of `CMD_ENCODE`: `CMDBUF`, `CMDARG_LO`, `INT` with mask `0x0001`, `CONFIG` with mask `0x000F`,
in the merged form of R189. -/
def encodeCommand (opcode : Byte) (arg : Word) (rsp : RspShape) (hasData : Bool) (s : State) : Res :=
  if 63 < opcode.toNat then .refused .opcodeRange
  else
    andThen (regWrite .cmdbuf (commandWord opcode arg) s) fun s =>
    andThen (writeField .cmdargLo Field.argLo (arg &&& 0xFF#32) s) fun s =>
    andThen (writeFieldMasked .int Field.cmpEn (if encodeCmpEn s.host.useInt rsp then 1#16 else 0#16) s) fun s =>
    regWriteMasked .config (mw 0x000F#16 (encodeConfigBits rsp hasData)) s

/-- `CMD_ENCODE(c, has_data)` (R180). -/
def execCmdEncode (opcode : Byte) (arg : Word) (rsp : RspShape) (hasData : Bool) (s : State) : Res :=
  encodeCommand opcode arg rsp hasData s

end Sys2Proof.Machine
end

