-- ==== Sys2Proof/Machine/DataPath.lean ====
section
/-! DEFINITION. Family 43, the Data Path Configurator (43_data_path_configurator.md), and the platform's DMA-mapping
facility (20_memory.md R87, R90; entries 12 to 14). -/

namespace Sys2Proof.Machine

/-! ### The mapping facility -/

/-- The identity mapping (R87). -/
def identityMap (sg : List Segment) : List Mapped := sg.map fun g => { addr := g.buf, len := g.len }

/-- The platform's answer for a scatter list, where its table has one. -/
def lookupMap : List MapEntry → List Segment → Dir → Option (List Mapped)
  | [], _, _ => none
  | e :: es, sg, dir => if e.sg = sg ∧ e.dir = dir then some e.mapped else lookupMap es sg dir

/-- `dma_map(sg, dir)` (R87, entry 13). -/
def dmaMap (s : State) (sg : List Segment) (dir : Dir) : List Mapped :=
  (lookupMap s.maps sg dir).getD (identityMap sg)

/-- The addresses of the bytes of a mapping, in bus order (R82). -/
def mappedKeys : List Mapped → List Nat
  | [] => []
  | m :: ms => (List.range m.len).map (fun o => m.addr.toNat + o) ++ mappedKeys ms

/-- The bytes of a read buffer after the transaction: those that the engine has written since `dma_map`, and free values
behind them (93_implementation_defined.md U10, entry 14). -/
def arrivedBytes (arrived draws : Nat) : Nat → List Byte → List Byte
  | _, [] => []
  | j, b :: bs => (if j < arrived then b else Config.freeByte (draws + j)) :: arrivedBytes arrived draws (j + 1) bs

/-- The buffers pass to the bus engine: for a write their bytes become visible in the DMA address space (R90). No byte of
them has been written by the engine yet (entry 14). -/
def handOver (d : DataDesc) (mapped : List Mapped) (s : State) : State :=
  let s := (s.setHost { s.host with dmaMapped := some mapped }).setBus { s.bus with arrived := 0 }
  match d.dir with
  | .wr => s.setDmaMem (writeKeys s.dmaMem (mappedKeys mapped) (readKeys s.bufMem (bufKeys d.sg)))
  | .rd => s

/-- `dma_unmap`: the buffers pass back: for a read their bytes become visible in the buffer space (R90). -/
def handBack (d : DataDesc) (mapped : List Mapped) (s : State) : State :=
  let t := s.setHost { s.host with dmaMapped := none }
  match d.dir with
  | .rd =>
    (t.setBufMem (writeKeys s.bufMem (bufKeys d.sg)
      (arrivedBytes s.bus.arrived s.draws 0 (readKeys s.dmaMem (mappedKeys mapped))))).setDraws
        (s.draws + mappedLength mapped)
  | .wr => t

/-! ### `DATA_CFG` -/

/-- A mapped segment fits a slot: a positive whole number of sectors, at most 65535, inside the DMA address space
(R228, 20_memory.md R80, R87). -/
def slotExpressible (c : Cfg) (m : Mapped) : Bool :=
  decide (0 < m.len) && m.len % c.sectorSize == 0 && decide (m.len / c.sectorSize ≤ 65535) &&
    decide (m.addr.toNat + m.len ≤ 2 ^ c.addrW)

/-- The table can express the mapping, and its slots end where the transfer does (R228, 70_reset_and_hazards.md R513). -/
def mappingExpressible (c : Cfg) (d : DataDesc) (ms : List Mapped) : Bool :=
  ms.all (slotExpressible c) && mappedLength ms == d.size

/-- Segment `k` of the mapping goes to slot `k` (R228). -/
def writeSlots : Nat → List Mapped → State → Res
  | _, [], s => .next s
  | k, m :: ms, s =>
    andThen (writeField (.dmaBase k) Field.addr m.addr s) fun s =>
    andThen (writeField (.dmaSize k) Field.sectors (BitVec.ofNat 32 (m.len / s.cfg.sectorSize)) s)
      (writeSlots (k + 1) ms)

/-- The transfer asks for the completion interrupt for itself (R229). -/
def wantsDmaInterrupt (s : State) (d : DataDesc) : Bool :=
  decide (s.cfg.dmaIntThreshold < d.size) && !s.host.useInt

/-- Enable the completion interrupt for a large transfer (R229). -/
def requestDmaInterrupt (d : DataDesc) (s : State) : Res :=
  if wantsDmaInterrupt s d then
    andThen (writeFieldMasked .int Field.cmpEn 1#16 s) fun s => .next (s.setHost { s.host with dmaIntReq := true })
  else .next s

/-- The number of mapped segments is one the table cannot hold (R227). -/
def mappingFails (c : Cfg) (ms : List Mapped) : Bool := ms.isEmpty || decide (c.maxSeg < ms.length)

/-- The buffers of a transfer that fails before its first byte: those of a read hold any value, because the transaction
ends in error (20_memory.md R90, 93_implementation_defined.md U10, entry 14). -/
def freeBuffers (d : DataDesc) (s : State) : State :=
  match d.dir with
  | .rd => freeBytes (bufKeys d.sg) s
  | .wr => s

/-- `DATA_CFG_DMA(d)` (R226). A mapping the table cannot hold is released at once (R227). DESIGN CHOICE (entry 12): R227
does not say what the DMA address space then holds; such a mapping of a write hands no byte over. -/
def configureDma (d : DataDesc) (s : State) : Res :=
  let mapped := dmaMap s d.sg d.dir
  if mappingFails s.cfg mapped then .next (returnCode (-1) (setCurrentData { d with error := .dmaMap } (freeBuffers d s)))
  else if !mappingExpressible s.cfg d mapped then .refused .mappingNotExpressible
  else
    andThen (writeFieldMasked .config Field.pioEn 0#16 (handOver d mapped s)) fun s =>
    andThen (writeSlots 0 mapped s) fun s =>
    andThen (requestDmaInterrupt d s) fun s => .next (returnCode 0 s)

/-- `DATA_CFG_PIO(d)` (R230). -/
def configurePio (s : State) : Res :=
  andThen (regWriteMasked .config (mw 0x0300#16 0x0300#16) s) fun s => .next (returnCode 0 s)

/-- The part of `DATA_CFG` before its branch (R221 to R225). -/
def configureCommon (d : DataDesc) (s : State) : Res :=
  andThen (writeField .blksize Field.blkSizeM1 (BitVec.ofNat 32 (d.blksz - 1)) s) fun s =>
  andThen (writeField .blkcnt Field.blkCntM1 (BitVec.ofNat 32 (d.blocks - 1)) s) fun s =>
  regWriteMasked .config (mw 0x00F0#16 (dataConfigBits s.cfg.lenModeNoAutostop d.dir)) s

/-- `DATA_CFG(d)` on the outstanding Request's Data Descriptor (R220). -/
def execDataCfg (s : State) : Res :=
  match currentData s with
  | none => .refused .noOperand
  | some d =>
    if blocksLegal s.cfg d then
      andThen (configureCommon d s) fun s =>
      match s.host.path with
      | .dma => configureDma d s
      | .pio => configurePio s
    else .refused .illFormedRequest

/-- `DATA_CFG_DMA(d)` (R226). -/
def execDataCfgDma (s : State) : Res :=
  match currentData s with
  | none => .refused .noOperand
  | some d => configureDma d s

/-- `DATA_CFG_PIO(d)` (R230). -/
def execDataCfgPio (s : State) : Res :=
  match currentData s with
  | none => .refused .noOperand
  | some _ => configurePio s

end Sys2Proof.Machine
end

