-- ==== Sys2Proof/Machine/ErrorTuner.lean ====
section
/-! DEFINITION. Family 47, the Error Classifier and Timing Tuner (47_error_classifier_tuner.md). -/

namespace Sys2Proof.Machine

/-- `SW_RESET()`: the register write, then the settling delay (R342, R343), then `after`. -/
def resetAndSettle (after : List Frame) (s : State) : Res :=
  andThen (softResetWrite s) fun t => .next (pushFrames (.settle (s.now + s.cfg.settleDelay) :: after) t)

/-- `TIMING_WRITEBACK()`: the five delays in one masked write (R344). -/
def writeBackTiming (s : State) : Res := regWriteMasked .timing (mw 0x7FFF#16 (tuningValue s.host.tune)) s

/-- `DELAY_BUMP(x)` on the Host (R349). -/
def bump (x : DelayName) (s : State) : State :=
  s.setHost { s.host with tune := bumpTuning s.cfg s.host.tune x }

/-- Bump the delay an arm of the classifier names, if it names one (R332 to R337). -/
def bumpOpt (x : Option DelayName) (s : State) : State :=
  match x with
  | some x => bump x s
  | none => s

/-- The retry count of a failed command: none in tuning mode (R341). -/
def setRetries (tuning : Bool) (s : State) : State :=
  if tuning then s
  else s.setHost { s.host with mrq := s.host.mrq.map (retriedRequest (retryCount s.cfg s.reg.clkDiv)) }

/-- What a failure records: nothing for the unclassified error state (R340, R341, R347). -/
def recordFailure (e : ErrorCode) (tuning : Bool) (s : State) : State :=
  match e with
  | .none => s
  | e => setRetries tuning (raiseError e s)

/-- What follows the soft reset: the write-back in tuning mode, then `need_tuning` (R344, R345). -/
def afterReset (e : ErrorCode) (tuning : Bool) : List Frame :=
  (if tuning then [Frame.call .timingWriteback] else []) ++ [.needTuning e]

/-- A failed transaction: bump, record, soft reset, and what follows it (R330). -/
def failTransaction (e : ErrorCode) (x : Option DelayName) (s : State) : Res :=
  let tuning := s.host.tune.needTuning != .none
  resetAndSettle (afterReset e tuning) (recordFailure e tuning (bumpOpt x s))

/-- A successful transaction (R331). -/
def succeedTransaction (s : State) : State :=
  setNeedTuning .none (s.setHost { s.host with mrq := s.host.mrq.map succeededRequest })

/-- The classifier on the outstanding Request `r` (R330). -/
def classify (r : Request) (s : State) : Res :=
  if s.reg.error then
    let c := classifyStatus s.cfg r.data.isSome s.reg.errBits s.reg.crcToken
    failTransaction c.1 c.2 s
  else if countsAsTimeout s.cfg s.host.waitFailed r.cmd.rsp then failTransaction .waitTimeout none s
  else .next (succeedTransaction s)

/-- `CHECK_ERROR(req)` (R330). -/
def execCheckError (s : State) : Res :=
  match s.host.mrq with
  | none => .refused .noOperand
  | some r => classify r s

/-- `DELAY_BUMP(x)` (R349). -/
def execDelayBump (x : DelayName) (s : State) : Res := .next (bump x s)

/-- `SW_RESET()` (R342). -/
def execSwReset (s : State) : Res := resetAndSettle [] s

/-- `TIMING_WRITEBACK()` (R344). -/
def execTimingWriteback (s : State) : Res := writeBackTiming s

end Sys2Proof.Machine
end

