-- ==== Sys2Proof/Machine/HostEntry.lean ====
section
/-! DEFINITION. Family 49, the upstream entry points (49_host_and_bus_interfaces.md R400 to R408). An entry point that
acquires the submission mutex releases it in the same step (entry 15). -/

namespace Sys2Proof.Machine

/-- The Host with a new clock rate (R401). -/
def clockedHost (c : Cfg) (rate : Word) (h : HostCtx) : HostCtx :=
  { h with busClock := rate, useInt := c.useIntOf rate, clockSet := true }

/-- `SET_CLOCK(rate)` (R401). -/
def execSetClock (rate : Word) (s : State) : Res :=
  whenUnlocked (.setClock rate) s
    (andThen (writeFieldMasked .clkcfg Field.clkDiv ((s.cfg.clkDivOf s.host.srcClk rate).setWidth 16) s) fun t =>
      .next (t.setHost (clockedHost t.cfg rate t.host)))

/-- The defaults of a timing mode (R402). -/
def defaultTiming (c : Cfg) (mode : Byte) (div : BitVec 12) : Half :=
  timingValue (c.delayOf .rdCrc mode div) (c.delayOf .rdDat mode div) (c.delayOf .rdRsp mode div)
    (c.delayOf .wrCmd mode div) (c.delayOf .wrDat mode div)

/-- The delays `TIMING_PROGRAM` writes: the tuned ones after a failure, else the mode's defaults (R402). -/
def programmedTiming (s : State) : Half :=
  if s.host.tune.needTuning ≠ .none then tuningValue s.host.tune
  else defaultTiming s.cfg s.host.timingMode s.reg.clkDiv

/-- The Host once `TIMING` has been programmed: it counts as set for `SUBMIT` once the clock has been set before, in that
order (R271, 70_reset_and_hazards.md R505, entry 7). -/
def timedHost (h : HostCtx) : HostCtx := { h with timingSet := h.timingSet || h.clockSet }

/-- The register write of `TIMING_PROGRAM` (R402). -/
def programTiming (s : State) : Res :=
  andThen (regWriteMasked .timing (mw 0x7FFF#16 (programmedTiming s)) s) fun t => .next (t.setHost (timedHost t.host))

/-- `SET_TIMING_MODE(mode, ddr)` (R402). -/
def execSetTimingMode (mode : Byte) (ddr : Bool) (s : State) : Res :=
  whenUnlocked (.setTimingMode mode ddr) s
    (programTiming (s.setHost { s.host with timingMode := mode, ddr := ddr }))

/-- `TIMING_PROGRAM()` (R402). -/
def execTimingProgram (s : State) : Res := programTiming s

/-- `SET_BUS_WIDTH(w)` (R403). -/
def execSetBusWidth (width : Byte) (s : State) : Res :=
  whenUnlocked (.setBusWidth width) s (.next (s.setHost { s.host with busWidth := width }))

/-- `SET_POWER(p)` (R404). -/
def execSetPower (power : Byte) (s : State) : Res :=
  whenUnlocked (.setPower power) s (.next (s.setHost { s.host with power := power }))

/-- An answer of the platform, drawn (U12). -/
def drawAnswer (f : Bool → Output) (s : State) : State :=
  (s.emit (f (Config.freeBool s.draws))).setDraws (s.draws + 1)

/-- `CARD_DETECT()` (R405). -/
def execCardDetect (s : State) : Res := .next (drawAnswer .cardPresent s)

/-- `VOLTAGE_SWITCH(v)` (R406). -/
def execVoltageSwitch (volt : Byte) (s : State) : Res :=
  .next (drawAnswer .voltageResult (s.setHost { s.host with voltage := volt }))

/-- No request is outstanding and the mutex is free (R408, X7). -/
def quiescent (s : State) : Bool := s.host.tc == .idle && s.host.lock == .free

/-- The state `ATTACH` leaves before its last register write: clock on, reset line pulsed, software state initialised,
the handler bound (R407). What P, I and W still have to do stays on their stacks (entry 21). -/
def attached (base srcClk : Word) (s : State) : State :=
  (((s.setReg RegBlock.reset).setBus BusEngine.reset).setHost
    (HostCtx.fresh base srcClk s.cfg.path s.cfg.mode)).setPlat
      { s.plat with clkOn := true, rstAsserted := false, irqBound := true }

/-- `ATTACH` fails: there is no Host (R407, entry 47). -/
def attachFailed (s : State) : State := s.setHost { s.host with attached := false }

/-- `ATTACH(platform)`; without a platform resource it fails (R407). -/
def execAttach (base srcClk : Word) (s : State) : Res :=
  if ¬ quiescent s then .refused .requestOutstanding
  else if base.extractLsb' 0 2 ≠ 0#2 then .refused .illegalBase
  else if s.plat.available then regWriteMasked .int (mw 0x0010#16 0x0010#16) (attached base srcClk s)
  else .next (attachFailed s)

/-- The state `DETACH` leaves behind its register write (R408). What P, I and W still have to do stays on their stacks
(entry 34). -/
def detached (s : State) : State :=
  (((s.setReg RegBlock.reset).setBus BusEngine.reset).setHost
    { HostCtx.fresh s.host.base s.host.srcClk s.host.path s.host.mode with attached := false }).setPlat
      { s.plat with clkOn := false, rstAsserted := true, irqBound := false }

/-- `DETACH()` (R408). -/
def execDetach (s : State) : Res :=
  if quiescent s then
    andThen (regWriteMasked .int (mw 0x0011#16 0x0000#16) s) fun t => .next (detached t)
  else .refused .requestOutstanding

end Sys2Proof.Machine
end

