-- ==== Sys2Proof/Machine/Interrupt.lean ====
section
/-! DEFINITION. Family 48, the interrupt and deferred-completion path (48_interrupt_deferred.md). -/

namespace Sys2Proof.Machine

/-- `IRQ_ENTRY()` (R371). It does not ask whether the line is high: entered with a low line it runs no arm (entry 24).
With no handler bound there is nothing to enter (entry 23). -/
def execIrqEntry (s : State) : Res := .next (if s.plat.irqBound then enterInterrupt s else s)

/-- The completion arm takes effect: nothing for a spurious interrupt; else the interrupt has been taken (10_state.md
R48, entry 42), and the deferred slot for a request with a stop command, or a direct finish (R372, R373, R377). -/
def completionAction (s : State) : State :=
  match s.host.mrq with
  | none => s
  | some r =>
    if s.host.tc = .waitingInterrupt then
      (if r.stop.isSome then s.setHost { s.host with cmpTaken := true, deferred := true }
       else pushFrames [.call .finish] (s.setHost { s.host with cmpTaken := true }))
    else s

/-- `IRQ_CMD_DONE()`: disable and clear in one write, then decide, under the spinlock (R372). -/
def execIrqCmdDone (s : State) : Res :=
  whenIrqUnlocked .irqCmdDone s
    (andThen (regWriteMasked .int (mw 0x0005#16 0x0004#16) s) fun t => .next (completionAction t))

/-- `IRQ_CARD()` (R375). -/
def execIrqCard (s : State) : Res :=
  andThen (regWriteMasked .int (mw 0x0040#16 0x0040#16) s) fun t => .next (t.emit .cardIrq)

/-- `DEFERRED_FINISH()`: enabled while the slot is full (R374), and not taken while it is empty (entry 23). -/
def execDeferredFinish (s : State) : Res :=
  .next (if s.host.deferred then pushFrames [.call .finish] (s.setHost { s.host with deferred := false }) else s)

end Sys2Proof.Machine
end

