-- ==== Sys2Proof/Machine/PioEngine.lean ====
section
/-! DEFINITION. Family 44, the PIO Transfer Engine (44_pio_engine.md). -/

namespace Sys2Proof.Machine

/-- The status bit a PIO word waits for (R251, R252). -/
def pioBit : Dir → StatusBit
  | .wr => .txBufEmpty
  | .rd => .rxBufFull

/-- The wait has returned 0: move one word (R251, R252). -/
def movePioWord (dir : Dir) (buf : Word) (off : Nat) (s : State) : Res :=
  match dir with
  | .wr => regWrite .dataTx (readBufWord s.bufMem buf off) s
  | .rd =>
    let r := readReg (.plain .dataRx) s
    .next (r.2.setBufMem (writeBufWord r.2.bufMem buf off r.1))

/-- One poll iteration of a PIO word operation; on -1 nothing moves (R251, R252). -/
def pollPioWord (dir : Dir) (buf : Word) (off : Nat) (deadline : Nat) (s : State) : Res :=
  pollThen (pioBit dir) deadline (.pioWord dir buf off deadline) (movePioWord dir buf off) .next s

/-- `PIO_WR_WORD(buf, off)` (R251). -/
def execPioWrWord (buf : Word) (off : Nat) (s : State) : Res := pollPioWord .wr buf off (deadlineOf s) s

/-- `PIO_RD_WORD(buf, off)` (R252). -/
def execPioRdWord (buf : Word) (off : Nat) (s : State) : Res := pollPioWord .rd buf off (deadlineOf s) s

/-- Pump from offset `off` of the first of `segs` on: start its next word, with the rest of the transfer behind it
(R250). The last word of a segment whose length is no multiple of 4 is moved whole (entry 30). -/
def pumpFrom (dir : Dir) : Nat → List Segment → State → Res
  | _, [], s => .next s
  | off, g :: gs, s =>
    if off < g.len then pollPioWord dir g.buf off (deadlineOf s) (pushFrames [.pioNext dir off (g :: gs)] s)
    else pumpFrom dir 0 gs s

/-- The keys of the bytes of a segment from `off` on. -/
def segmentKeys (g : Segment) (off : Nat) : List Nat := (List.range (g.len - off)).map fun o => bufKey g.buf (off + o)

/-- The keys of the bytes that an aborted transfer leaves untransferred: the rest of the segment, or of the transfer, by
`PIO_ABORT_SCOPE` (R253). -/
def abortedKeys (scope : AbortScope) (off : Nat) : List Segment → List Nat
  | [] => []
  | g :: gs =>
    match scope with
    | .segment => segmentKeys g off
    | .transfer => segmentKeys g off ++ bufKeys gs

/-- The transfer is aborted at `off` of the first of `segs`: of a read, the bytes not yet transferred hold any value
(R253, 20_memory.md R90, 93_implementation_defined.md U10, entry 33). -/
def abortAt (dir : Dir) (off : Nat) (segs : List Segment) (s : State) : State :=
  match dir with
  | .rd => freeBytes (abortedKeys s.cfg.pioAbortScope off segs) s
  | .wr => s

/-- The word at `off` of the first of `segs` has returned 0 or -1 (R250, R253). -/
def pumpNext (dir : Dir) (off : Nat) (segs : List Segment) (s : State) : Res :=
  if (actorCtx s).ret = 0 then pumpFrom dir (off + 4) segs s
  else
    match s.cfg.pioAbortScope with
    | .transfer => .next (abortAt dir off segs s)
    | .segment => pumpFrom dir 0 segs.tail (abortAt dir off segs s)

/-- `PIO_XFER(d)` on the outstanding Request's Data Descriptor (R250). -/
def execPioXfer (s : State) : Res :=
  match currentData s with
  | none => .refused .noOperand
  | some d => pumpFrom d.dir 0 d.sg s

end Sys2Proof.Machine
end

