-- ==== Sys2Proof/Machine/RegisterAccess.lean ====
section
/-! DEFINITION. Family 40, the Register Access Layer: one meaning per register and direction of format `MMIO`
(30_encoding.md R141), `FIELD_GET`, `FIELD_SET`, `REG_RD`, `REG_WR`, `REG_WR_MASKED` (40_register_access.md). -/

namespace Sys2Proof.Machine

/-- Read of `CMDBUF` (10_state.md R22). -/
def execRdCmdbuf (s : State) : Res := regRead (.plain .cmdbuf) s

/-- Write of `CMDBUF` (10_state.md R22). -/
def execWrCmdbuf (w : Word) (s : State) : Res := regWriteAny (.plain .cmdbuf) w s

/-- Read of `CMDARG_LO` (10_state.md R23). -/
def execRdCmdargLo (s : State) : Res := regRead (.plain .cmdargLo) s

/-- Write of `CMDARG_LO` (10_state.md R23). -/
def execWrCmdargLo (w : Word) (s : State) : Res := regWriteAny (.plain .cmdargLo) w s

/-- Read of `RSPBUF_HI` (10_state.md R24): without a full window the value is free. -/
def execRdRspbufHi (s : State) : Res := regRead (.plain .rspbufHi) s

/-- Write of `RSPBUF_HI` (10_state.md R24): ignored. -/
def execWrRspbufHi (w : Word) (s : State) : Res := regWriteAny (.plain .rspbufHi) w s

/-- Read of `RSPBUF_LO` (10_state.md R25): consumes a full window; without one the value is free. -/
def execRdRspbufLo (s : State) : Res := regRead (.plain .rspbufLo) s

/-- Write of `RSPBUF_LO` (10_state.md R25): ignored. -/
def execWrRspbufLo (w : Word) (s : State) : Res := regWriteAny (.plain .rspbufLo) w s

/-- Read of `CONFIG` (10_state.md R26). -/
def execRdConfig (s : State) : Res := regRead (.masked .config) s

/-- Write of `CONFIG` (10_state.md R26). -/
def execWrConfig (w : Word) (s : State) : Res := regWriteAny (.masked .config) w s

/-- Read of `CTRL` (10_state.md R27): reads 0. -/
def execRdCtrl (s : State) : Res := regRead (.masked .ctrl) s

/-- Write of `CTRL` (10_state.md R27): performs the actions the mask selects. -/
def execWrCtrl (w : Word) (s : State) : Res := regWriteAny (.masked .ctrl) w s

/-- Read of `INT` (10_state.md R28). -/
def execRdInt (s : State) : Res := regRead (.masked .int) s

/-- Write of `INT` (10_state.md R28): enables, and clears of the pending bits. -/
def execWrInt (w : Word) (s : State) : Res := regWriteAny (.masked .int) w s

/-- Read of `STATE` (10_state.md R29). -/
def execRdState (s : State) : Res := regRead (.plain .state) s

/-- Write of `STATE` (10_state.md R29): ignored. -/
def execWrState (w : Word) (s : State) : Res := regWriteAny (.plain .state) w s

/-- Read of `STATUS` (10_state.md R30). -/
def execRdStatus (s : State) : Res := regRead (.plain .status) s

/-- Write of `STATUS` (10_state.md R30): ignored. -/
def execWrStatus (w : Word) (s : State) : Res := regWriteAny (.plain .status) w s

/-- Read of `TIMING` (10_state.md R31). -/
def execRdTiming (s : State) : Res := regRead (.masked .timing) s

/-- Write of `TIMING` (10_state.md R31). -/
def execWrTiming (w : Word) (s : State) : Res := regWriteAny (.masked .timing) w s

/-- Read of `CLKCFG` (10_state.md R32). -/
def execRdClkcfg (s : State) : Res := regRead (.masked .clkcfg) s

/-- Write of `CLKCFG` (10_state.md R32). -/
def execWrClkcfg (w : Word) (s : State) : Res := regWriteAny (.masked .clkcfg) w s

/-- Read of `BLKSIZE` (10_state.md R33). -/
def execRdBlksize (s : State) : Res := regRead (.plain .blksize) s

/-- Write of `BLKSIZE` (10_state.md R33). -/
def execWrBlksize (w : Word) (s : State) : Res := regWriteAny (.plain .blksize) w s

/-- Read of `BLKCNT` (10_state.md R34). -/
def execRdBlkcnt (s : State) : Res := regRead (.plain .blkcnt) s

/-- Write of `BLKCNT` (10_state.md R34). -/
def execWrBlkcnt (w : Word) (s : State) : Res := regWriteAny (.plain .blkcnt) w s

/-- Read of `DATA_TX` (10_state.md R35): the value is free. -/
def execRdDataTx (s : State) : Res := regRead (.plain .dataTx) s

/-- Write of `DATA_TX` (10_state.md R35): pushes a word. -/
def execWrDataTx (w : Word) (s : State) : Res := regWriteAny (.plain .dataTx) w s

/-- Read of `DATA_RX` (10_state.md R36): pops a word; without one the value is free. -/
def execRdDataRx (s : State) : Res := regRead (.plain .dataRx) s

/-- Write of `DATA_RX` (10_state.md R36): ignored. -/
def execWrDataRx (w : Word) (s : State) : Res := regWriteAny (.plain .dataRx) w s

/-- Read of `DMA_BASE0` (10_state.md R37). -/
def execRdDmaBase0 (s : State) : Res := regRead (.plain (.dmaBase 0)) s

/-- Write of `DMA_BASE0` (10_state.md R37). -/
def execWrDmaBase0 (w : Word) (s : State) : Res := regWriteAny (.plain (.dmaBase 0)) w s

/-- Read of `DMA_SIZE0` (10_state.md R37). -/
def execRdDmaSize0 (s : State) : Res := regRead (.plain (.dmaSize 0)) s

/-- Write of `DMA_SIZE0` (10_state.md R37). -/
def execWrDmaSize0 (w : Word) (s : State) : Res := regWriteAny (.plain (.dmaSize 0)) w s

/-- Read of `DMA_BASE[1]` (10_state.md R38). -/
def execRdDmaBase1 (s : State) : Res := regRead (.plain (.dmaBase 1)) s

/-- Write of `DMA_BASE[1]` (10_state.md R38). -/
def execWrDmaBase1 (w : Word) (s : State) : Res := regWriteAny (.plain (.dmaBase 1)) w s

/-- Read of `DMA_SIZE[1]` (10_state.md R38). -/
def execRdDmaSize1 (s : State) : Res := regRead (.plain (.dmaSize 1)) s

/-- Write of `DMA_SIZE[1]` (10_state.md R38). -/
def execWrDmaSize1 (w : Word) (s : State) : Res := regWriteAny (.plain (.dmaSize 1)) w s

/-- Read of `DMA_BASE[2]` (10_state.md R38). -/
def execRdDmaBase2 (s : State) : Res := regRead (.plain (.dmaBase 2)) s

/-- Write of `DMA_BASE[2]` (10_state.md R38). -/
def execWrDmaBase2 (w : Word) (s : State) : Res := regWriteAny (.plain (.dmaBase 2)) w s

/-- Read of `DMA_SIZE[2]` (10_state.md R38). -/
def execRdDmaSize2 (s : State) : Res := regRead (.plain (.dmaSize 2)) s

/-- Write of `DMA_SIZE[2]` (10_state.md R38). -/
def execWrDmaSize2 (w : Word) (s : State) : Res := regWriteAny (.plain (.dmaSize 2)) w s

/-- Read of `DMA_BASE[3]` (10_state.md R38). -/
def execRdDmaBase3 (s : State) : Res := regRead (.plain (.dmaBase 3)) s

/-- Write of `DMA_BASE[3]` (10_state.md R38). -/
def execWrDmaBase3 (w : Word) (s : State) : Res := regWriteAny (.plain (.dmaBase 3)) w s

/-- Read of `DMA_SIZE[3]` (10_state.md R38). -/
def execRdDmaSize3 (s : State) : Res := regRead (.plain (.dmaSize 3)) s

/-- Write of `DMA_SIZE[3]` (10_state.md R38). -/
def execWrDmaSize3 (w : Word) (s : State) : Res := regWriteAny (.plain (.dmaSize 3)) w s

/-- Read of `DMA_BASE[4]` (10_state.md R38). -/
def execRdDmaBase4 (s : State) : Res := regRead (.plain (.dmaBase 4)) s

/-- Write of `DMA_BASE[4]` (10_state.md R38). -/
def execWrDmaBase4 (w : Word) (s : State) : Res := regWriteAny (.plain (.dmaBase 4)) w s

/-- Read of `DMA_SIZE[4]` (10_state.md R38). -/
def execRdDmaSize4 (s : State) : Res := regRead (.plain (.dmaSize 4)) s

/-- Write of `DMA_SIZE[4]` (10_state.md R38). -/
def execWrDmaSize4 (w : Word) (s : State) : Res := regWriteAny (.plain (.dmaSize 4)) w s

/-- Read of `DMA_BASE[5]` (10_state.md R38). -/
def execRdDmaBase5 (s : State) : Res := regRead (.plain (.dmaBase 5)) s

/-- Write of `DMA_BASE[5]` (10_state.md R38). -/
def execWrDmaBase5 (w : Word) (s : State) : Res := regWriteAny (.plain (.dmaBase 5)) w s

/-- Read of `DMA_SIZE[5]` (10_state.md R38). -/
def execRdDmaSize5 (s : State) : Res := regRead (.plain (.dmaSize 5)) s

/-- Write of `DMA_SIZE[5]` (10_state.md R38). -/
def execWrDmaSize5 (w : Word) (s : State) : Res := regWriteAny (.plain (.dmaSize 5)) w s

/-- Read of `DMA_BASE[6]` (10_state.md R38). -/
def execRdDmaBase6 (s : State) : Res := regRead (.plain (.dmaBase 6)) s

/-- Write of `DMA_BASE[6]` (10_state.md R38). -/
def execWrDmaBase6 (w : Word) (s : State) : Res := regWriteAny (.plain (.dmaBase 6)) w s

/-- Read of `DMA_SIZE[6]` (10_state.md R38). -/
def execRdDmaSize6 (s : State) : Res := regRead (.plain (.dmaSize 6)) s

/-- Write of `DMA_SIZE[6]` (10_state.md R38). -/
def execWrDmaSize6 (w : Word) (s : State) : Res := regWriteAny (.plain (.dmaSize 6)) w s

/-- Read of `DMA_BASE[7]` (10_state.md R38). -/
def execRdDmaBase7 (s : State) : Res := regRead (.plain (.dmaBase 7)) s

/-- Write of `DMA_BASE[7]` (10_state.md R38). -/
def execWrDmaBase7 (w : Word) (s : State) : Res := regWriteAny (.plain (.dmaBase 7)) w s

/-- Read of `DMA_SIZE[7]` (10_state.md R38). -/
def execRdDmaSize7 (s : State) : Res := regRead (.plain (.dmaSize 7)) s

/-- Write of `DMA_SIZE[7]` (10_state.md R38). -/
def execWrDmaSize7 (w : Word) (s : State) : Res := regWriteAny (.plain (.dmaSize 7)) w s

/-- `FIELD_GET(w, lo, n)` (R160). -/
def execFieldGet (w : Word) (lo n : Byte) (s : State) : Res :=
  if fieldLegal lo.toNat n.toNat then .next (returnWord (fieldGetWord w lo.toNat n.toNat) s)
  else .refused .fieldLeavesWord

/-- `FIELD_SET(w, lo, n, v)` (R161). -/
def execFieldSet (w : Word) (lo n : Byte) (v : Word) (s : State) : Res :=
  if fieldLegal lo.toNat n.toNat then .next (returnWord (fieldSetWord w lo.toNat n.toNat v) s)
  else .refused .fieldLeavesWord

/-- `REG_RD(reg)` (R162). -/
def execRegRd (r : Reg) (s : State) : Res := regRead r s

/-- `REG_WR(reg, W)` (R163). -/
def execRegWr (r : PlainReg) (w : Word) (s : State) : Res := regWrite r w s

/-- `REG_WR_MASKED(reg, W)` (R164). -/
def execRegWrMasked (m : MaskedReg) (w : Word) (s : State) : Res := regWriteMasked m w s

end Sys2Proof.Machine
end

