-- ==== Sys2Proof/Machine/ResponseDecoder.lean ====
section
/-! DEFINITION. Family 42, the Response Decoder (42_response_decoder.md). -/

namespace Sys2Proof.Machine

/-- One window read in the order `RSPBUF_HI`, `RSPBUF_LO` (R201, 70_reset_and_hazards.md R511). -/
def readWindow (s : State) : (Word × Word) × State :=
  let hi := readReg (.plain .rspbufHi) s
  let lo := readReg (.plain .rspbufLo) hi.2
  ((hi.1, lo.1), lo.2)

/-- A Command with the two words of a 48-bit response (R201). -/
def with48 (p : Word × Word) (c : Command) : Command :=
  { c with resp0 := some (repack48 p.1 p.2).1, resp1 := some (repack48 p.1 p.2).2 }

/-- A Command with the four words of a 136-bit response (R202). -/
def with136 (p0 p1 p2 : Word × Word) (c : Command) : Command :=
  let r := repack136 p0 p1 p2
  { c with resp0 := some r.1, resp1 := some r.2.1, resp2 := some r.2.2.1, resp3 := some r.2.2.2 }

/-- Write a Command of the outstanding Request. -/
def updateCmd (c : CmdSel) (f : Command → Command) (s : State) : State :=
  match currentCmd s c with
  | some k => setCurrentCmd c (f k) s
  | none => s

/-- The window is full: read it and write the two response words (R201). -/
def finish48 (c : CmdSel) (s : State) : Res :=
  .next (updateCmd c (with48 (readWindow s).1) (readWindow s).2)

/-- One poll iteration of `RSP_GET48`; on -1 nothing is read and nothing written (R203). -/
def poll48 (c : CmdSel) (deadline : Nat) (s : State) : Res :=
  pollThen .rspBufFull deadline (.rsp48 c deadline) (finish48 c) .next s

/-- The pair of a pass has been read: write the four words after the third pass, else wait for the next window with a
deadline of its own, taken here, where that wait is entered; its first poll is the agent's next turn (R202,
46_bounded_waits.md R317, entry 15). -/
def finishPass (c : CmdSel) (pairs : List (Word × Word)) (s : State) : Res :=
  match pairs ++ [(readWindow s).1] with
  | [p0, p1, p2] => .next (updateCmd c (with136 p0 p1 p2) (readWindow s).2)
  | ps => .next (pushFrames [.rsp136 c ps (deadlineOf s)] (readWindow s).2)

/-- One poll iteration of a pass of `RSP_GET136`; on -1 no word is written (R203). -/
def poll136 (c : CmdSel) (pairs : List (Word × Word)) (deadline : Nat) (s : State) : Res :=
  pollThen .rspBufFull deadline (.rsp136 c pairs deadline) (finishPass c pairs) .next s

/-- `RSP_NONE(c)`: nothing to decode (R204). It touches no Command, so it runs also where the selected Command does not
exist (entry 20). -/
def execRspNone (_c : CmdSel) (s : State) : Res := .next s

/-- `RSP_GET48(c)` (R201). -/
def execRspGet48 (c : CmdSel) (s : State) : Res :=
  match currentCmd s c with
  | some _ => poll48 c (deadlineOf s) s
  | none => .refused .noOperand

/-- `RSP_GET136(c)` (R202). -/
def execRspGet136 (c : CmdSel) (s : State) : Res :=
  match currentCmd s c with
  | some _ => poll136 c [] (deadlineOf s) s
  | none => .refused .noOperand

/-- The decoder `RSP_GET(c)` runs for a response shape (R200). -/
def decoderOf (rsp : RspShape) (c : CmdSel) : Instr :=
  match rsp with
  | .none => .rspNone c
  | .r48 => .rspGet48 c
  | .r136 => .rspGet136 c
  | .r48b => .rspGet48 c

end Sys2Proof.Machine
end

