-- ==== Sys2Proof/Machine/Transaction.lean ====
section
/-! DEFINITION. Family 45, the Transaction Controller (45_transaction_controller.md). Between its waits an operation of
this family is one step; what remains stands on the acting agent's stack (entry 15). -/

namespace Sys2Proof.Machine

/-! ### `SUBMIT` (R271) -/

/-- `well_formed(req)` with the conditions on the Host (R271, 70_reset_and_hazards.md R505). -/
def submittable (s : State) (r : Request) : Bool :=
  s.host.attached && s.host.clockSet && s.host.timingSet && requestWellFormed s.cfg s.host.path r

/-- The Host once the mutex is taken for `r` (R271). -/
def recordedHost (r : Request) (h : HostCtx) : HostCtx :=
  { h with lock := .held, mrq := some r, tc := .preparing, waitFailed := false, cmpTaken := false }

/-- The mutex is free: take it, record the request, go on with `CMD_ENCODE` (R271). -/
def acceptRequest (r : Request) (s : State) : State :=
  pushFrames [.call (.cmdEncode r.cmd.opcode r.cmd.arg r.cmd.rsp r.data.isSome), .afterEncode, .submitReturn]
    (s.setHost (recordedHost r s.host))

/-- `SUBMIT(req)` (R271). -/
def execSubmit (r : Request) (s : State) : Res :=
  if submittable s r then whenUnlocked (.submit r) s (.next (acceptRequest r s))
  else .refused .illFormedRequest

/-- The dispatch key of the outstanding Request (30_encoding.md R139). -/
def currentKey (s : State) : Option (BitVec 7) :=
  s.host.mrq.map (dispatchKey s.cfg s.host.path s.host.useInt)

/-- The path of `SUBMIT` for a Request, by the branches of R271. -/
def branchOf (path : PathMode) (useInt dmaIntReq : Bool) (r : Request) : PathRow :=
  if r.cmd.rsp = .r136 then .r136
  else if r.data.isSome then
    match path with
    | .pio => .dataPio
    | .dma => if useInt then .dataDmaIrqCmd else if dmaIntReq then .dataDmaIrqThr else .dataDmaPoll
  else if useInt then .nodataIrq
  else .nodataPoll

/-- The path operation of the outstanding Request. -/
def pathFrame (r : Request) (s : State) : Frame :=
  .call (pathInstr (dispatchKey s.cfg s.host.path s.host.useInt r)
    (branchOf s.host.path s.host.useInt s.host.dmaIntReq r))

/-- `SUBMIT` behind `CMD_ENCODE`: `DATA_CFG` when the path has a data phase, else the path (R271). -/
def afterEncode (s : State) : Res :=
  match s.host.mrq with
  | none => .next s
  | some r =>
    if r.cmd.rsp ≠ .r136 ∧ r.data.isSome then .next (pushFrames [.call .dataCfg, .afterCfg] s)
    else .next (pushFrames [pathFrame r s] s)

/-- `SUBMIT` behind `DATA_CFG`: the map-failure path or the path (R271). -/
def afterCfg (s : State) : Res :=
  match s.host.mrq with
  | none => .next s
  | some r =>
    if (actorCtx s).ret = 0 then .next (pushFrames [pathFrame r s] s)
    else .next (pushFrames [.call .finishMapfail] s)

/-- `SUBMIT` returns `SUBMITTED` to its caller (R271). -/
def submitReturn (s : State) : State :=
  match s.actor with
  | .p tid => s.emit (.submitted tid)
  | _ => s

/-! ### `TRIGGER` (R279) -/

/-- The waiting state `TRIGGER` enters. -/
def waitState : WaitSel → TcState
  | .poll => .waitingPoll
  | .interrupt => .waitingInterrupt

/-- The register write and the passage through `Triggered`, one step (R279). -/
def triggerInto (v : WaitSel) (s : State) : Res :=
  andThen (triggerWrite s) fun t => .next (t.setHost { t.host with tc := waitState v })

/-- `TRIGGER(w)` (R279). -/
def execTrigger (v : WaitSel) (s : State) : Res :=
  if s.host.tc = .preparing then triggerInto v s else .refused .notPreparing

/-! ### The paths (R272 to R277) -/

/-- The operands of a path are the outstanding Request in `Preparing` with this key, its data mapped where the path
moves them by DMA (R272 to R277, 70_reset_and_hazards.md R512, entry 20). -/
def pathReady (row : PathRow) (k : BitVec 7) (s : State) : Bool :=
  s.host.tc == .preparing && currentKey s == some k && reqRow k == some row &&
    ((currentData s).all fun d => d.error != .dmaMap)

/-- A path: trigger, then what the path does behind its trigger. -/
def runPath (row : PathRow) (k : BitVec 7) (v : WaitSel) (rest : List Frame) (s : State) : Res :=
  if pathReady row k s then andThen (triggerInto v s) fun t => .next (pushFrames rest t)
  else .refused .pathOperands

/-- `SUBMIT.R136` (R272). -/
def execSubmitR136 (k : BitVec 7) (s : State) : Res :=
  runPath .r136 k .poll
    [.call (.rspGet136 .primary), .call .waitFinish, .enterFinishing, .call .checkError, .tailR136] s

/-- `SUBMIT.DATA_PIO`: the completion enable is cleared before the trigger (R273). -/
def execSubmitDataPio (k : BitVec 7) (s : State) : Res :=
  andThen (writeFieldMasked .int Field.cmpEn 0#16 s) fun s =>
  runPath .dataPio k .poll [.call .pioXfer, .call .waitFinish, .call .finish] s

/-- `SUBMIT.DATA_DMA_IRQ`, the command interrupt (R275). -/
def execSubmitDataDmaIrqCmd (k : BitVec 7) (s : State) : Res := runPath .dataDmaIrqCmd k .interrupt [] s

/-- `SUBMIT.DATA_DMA_IRQ`, the threshold interrupt (R275). -/
def execSubmitDataDmaIrqThr (k : BitVec 7) (s : State) : Res := runPath .dataDmaIrqThr k .interrupt [] s

/-- `SUBMIT.DATA_DMA_POLL` (R274). -/
def execSubmitDataDmaPoll (k : BitVec 7) (s : State) : Res :=
  runPath .dataDmaPoll k .poll [.call .waitFinish, .call .finish] s

/-- `SUBMIT.NODATA_IRQ` (R277). -/
def execSubmitNodataIrq (k : BitVec 7) (s : State) : Res := runPath .nodataIrq k .interrupt [] s

/-- `SUBMIT.NODATA_POLL` (R276). -/
def execSubmitNodataPoll (k : BitVec 7) (s : State) : Res :=
  runPath .nodataPoll k .poll [.call .waitFinish, .call .finish] s

/-! ### The endings (R272, R278, R280, R281) -/

/-- The machine goes to `Finishing`: `SUBMIT.R136` behind its waits, and the map-failure path (R272, R278). -/
def enterFinishing (s : State) : State :=
  match s.host.mrq with
  | none => s
  | some _ => s.setHost { s.host with tc := .finishing }

/-- `FINISH_MAPFAIL(req)`: the machine goes to `Finishing`, and the tail is next (R270, R278). -/
def execFinishMapfail (s : State) : Res :=
  match currentData s with
  | some d =>
    if s.host.tc = .preparing ∧ d.error = .dmaMap then .next (pushFrames [.tailR136] (enterFinishing s))
    else .refused .pathOperands
  | none => .refused .pathOperands

/-- The operations of `FINISH` behind its claim (R280). -/
def finishFrames (r : Request) : List Frame :=
  [.call (decoderOf r.cmd.rsp .primary), .call .checkError] ++
    (if r.stop.isSome then [.call .stopIssue] else []) ++ [.tailFinish]

/-- `FINISH` unmaps the DMA buffers (R280). -/
def unmapRequest (r : Request) (s : State) : State :=
  match s.host.dmaMapped, r.data with
  | some mapped, some d => handBack d mapped s
  | _, _ => s.setHost { s.host with dmaMapped := none }

/-- `FINISH` has claimed the request: unmap, then decode, classify, stop, and the tail (R280). -/
def claimRequest (r : Request) (s : State) : State :=
  pushFrames (finishFrames r) (unmapRequest r (s.setHost { s.host with tc := .finishing }))

/-- `FINISH()`: the guard under the spinlock, then the finishing path (R280, R281). -/
def execFinish (s : State) : Res :=
  whenIrqUnlocked .finish s
    (match s.host.mrq with
     | none => .next s
     | some r => if s.host.tc = .finishing then .next s else .next (claimRequest r s))

/-- The tail of `FINISH` (R280, 60_exceptions.md R463). -/
def tailFinish (s : State) : State := finishRequest (s.setHost { s.host with dmaIntReq := false })

/-! ### `STOP_ISSUE` (R282) -/

/-- The operations of `STOP_ISSUE` behind its trigger. -/
def stopFrames (c : Command) : List Frame := [.call .waitFinish, .call (decoderOf c.rsp .stop), .stopCheck]

/-- `STOP_ISSUE(req)` on the outstanding Request (R282). -/
def execStopIssue (s : State) : Res :=
  match currentCmd s .stop with
  | none => .refused .noOperand
  | some c =>
    andThen (encodeCommand c.opcode c.arg c.rsp false (s.setHost { s.host with waitFailed := false })) fun s =>
    andThen (writeFieldMasked .int Field.cmpEn 0#16 s) fun s =>
    andThen (triggerWrite s) fun s => .next (pushFrames (stopFrames c) s)

/-- The end of `STOP_ISSUE`: record a failure in the stop Command and soft-reset (R282). -/
def stopCheck (s : State) : Res :=
  match currentCmd s .stop with
  | none => .next s
  | some c =>
    if s.reg.error || s.host.waitFailed then
      resetAndSettle [] (setCurrentCmd .stop { c with error := classifyStop s.reg.errBits } s)
    else .next s

/-! ### `NOTIFY` (R283) -/

/-- `NOTIFY(req)`: an output event to U (R283). -/
def execNotify (r : Request) (s : State) : Res := .next (s.emit (.notify r))

end Sys2Proof.Machine
end

