-- ==== Sys2Proof/Machine/Waits.lean ====
section
/-! DEFINITION. Family 46, the bounded waits (46_bounded_waits.md). The first poll iteration runs at once; a wait that
has to go on stands on the acting agent's stack. -/

namespace Sys2Proof.Machine

/-- `WAIT_UNTIL(reg, BIT)` (R310). -/
def execWaitUntil (b : StatusBit) (s : State) : Res := waitBit b (deadlineOf s) s

/-- `WAIT_FINISH()` (R311). -/
def execWaitFinish (s : State) : Res := waitBit .finished (deadlineOf s) s

/-- `WAIT_RSP_FULL()` (R312). -/
def execWaitRspFull (s : State) : Res := waitBit .rspBufFull (deadlineOf s) s

/-- `WAIT_TX_EMPTY()` (R313). -/
def execWaitTxEmpty (s : State) : Res := waitBit .txBufEmpty (deadlineOf s) s

/-- `WAIT_RX_FULL()` (R314). -/
def execWaitRxFull (s : State) : Res := waitBit .rxBufFull (deadlineOf s) s

end Sys2Proof.Machine
end

