-- ==== Sys2Proof/Machine/Dispatch.lean ====
section
/-! DEFINITION. One arm per operation: its meaning. -/

namespace Sys2Proof.Machine

open Sys2Proof

def exec (i : Instr) (s : State) : Host.Outcome State Fault Refusal :=
  match i with
  | .rdCmdbuf => Sys2Proof.Machine.execRdCmdbuf s
  | .wrCmdbuf w => Sys2Proof.Machine.execWrCmdbuf w s
  | .rdCmdargLo => Sys2Proof.Machine.execRdCmdargLo s
  | .wrCmdargLo w => Sys2Proof.Machine.execWrCmdargLo w s
  | .rdRspbufHi => Sys2Proof.Machine.execRdRspbufHi s
  | .wrRspbufHi w => Sys2Proof.Machine.execWrRspbufHi w s
  | .rdRspbufLo => Sys2Proof.Machine.execRdRspbufLo s
  | .wrRspbufLo w => Sys2Proof.Machine.execWrRspbufLo w s
  | .rdConfig => Sys2Proof.Machine.execRdConfig s
  | .wrConfig w => Sys2Proof.Machine.execWrConfig w s
  | .rdCtrl => Sys2Proof.Machine.execRdCtrl s
  | .wrCtrl w => Sys2Proof.Machine.execWrCtrl w s
  | .rdInt => Sys2Proof.Machine.execRdInt s
  | .wrInt w => Sys2Proof.Machine.execWrInt w s
  | .rdState => Sys2Proof.Machine.execRdState s
  | .wrState w => Sys2Proof.Machine.execWrState w s
  | .rdStatus => Sys2Proof.Machine.execRdStatus s
  | .wrStatus w => Sys2Proof.Machine.execWrStatus w s
  | .rdTiming => Sys2Proof.Machine.execRdTiming s
  | .wrTiming w => Sys2Proof.Machine.execWrTiming w s
  | .rdClkcfg => Sys2Proof.Machine.execRdClkcfg s
  | .wrClkcfg w => Sys2Proof.Machine.execWrClkcfg w s
  | .rdBlksize => Sys2Proof.Machine.execRdBlksize s
  | .wrBlksize w => Sys2Proof.Machine.execWrBlksize w s
  | .rdBlkcnt => Sys2Proof.Machine.execRdBlkcnt s
  | .wrBlkcnt w => Sys2Proof.Machine.execWrBlkcnt w s
  | .rdDataTx => Sys2Proof.Machine.execRdDataTx s
  | .wrDataTx w => Sys2Proof.Machine.execWrDataTx w s
  | .rdDataRx => Sys2Proof.Machine.execRdDataRx s
  | .wrDataRx w => Sys2Proof.Machine.execWrDataRx w s
  | .rdDmaBase0 => Sys2Proof.Machine.execRdDmaBase0 s
  | .wrDmaBase0 w => Sys2Proof.Machine.execWrDmaBase0 w s
  | .rdDmaSize0 => Sys2Proof.Machine.execRdDmaSize0 s
  | .wrDmaSize0 w => Sys2Proof.Machine.execWrDmaSize0 w s
  | .rdDmaBase1 => Sys2Proof.Machine.execRdDmaBase1 s
  | .wrDmaBase1 w => Sys2Proof.Machine.execWrDmaBase1 w s
  | .rdDmaSize1 => Sys2Proof.Machine.execRdDmaSize1 s
  | .wrDmaSize1 w => Sys2Proof.Machine.execWrDmaSize1 w s
  | .rdDmaBase2 => Sys2Proof.Machine.execRdDmaBase2 s
  | .wrDmaBase2 w => Sys2Proof.Machine.execWrDmaBase2 w s
  | .rdDmaSize2 => Sys2Proof.Machine.execRdDmaSize2 s
  | .wrDmaSize2 w => Sys2Proof.Machine.execWrDmaSize2 w s
  | .rdDmaBase3 => Sys2Proof.Machine.execRdDmaBase3 s
  | .wrDmaBase3 w => Sys2Proof.Machine.execWrDmaBase3 w s
  | .rdDmaSize3 => Sys2Proof.Machine.execRdDmaSize3 s
  | .wrDmaSize3 w => Sys2Proof.Machine.execWrDmaSize3 w s
  | .rdDmaBase4 => Sys2Proof.Machine.execRdDmaBase4 s
  | .wrDmaBase4 w => Sys2Proof.Machine.execWrDmaBase4 w s
  | .rdDmaSize4 => Sys2Proof.Machine.execRdDmaSize4 s
  | .wrDmaSize4 w => Sys2Proof.Machine.execWrDmaSize4 w s
  | .rdDmaBase5 => Sys2Proof.Machine.execRdDmaBase5 s
  | .wrDmaBase5 w => Sys2Proof.Machine.execWrDmaBase5 w s
  | .rdDmaSize5 => Sys2Proof.Machine.execRdDmaSize5 s
  | .wrDmaSize5 w => Sys2Proof.Machine.execWrDmaSize5 w s
  | .rdDmaBase6 => Sys2Proof.Machine.execRdDmaBase6 s
  | .wrDmaBase6 w => Sys2Proof.Machine.execWrDmaBase6 w s
  | .rdDmaSize6 => Sys2Proof.Machine.execRdDmaSize6 s
  | .wrDmaSize6 w => Sys2Proof.Machine.execWrDmaSize6 w s
  | .rdDmaBase7 => Sys2Proof.Machine.execRdDmaBase7 s
  | .wrDmaBase7 w => Sys2Proof.Machine.execWrDmaBase7 w s
  | .rdDmaSize7 => Sys2Proof.Machine.execRdDmaSize7 s
  | .wrDmaSize7 w => Sys2Proof.Machine.execWrDmaSize7 w s
  | .submitR136 k => Sys2Proof.Machine.execSubmitR136 k s
  | .submitDataPio k => Sys2Proof.Machine.execSubmitDataPio k s
  | .submitDataDmaIrqCmd k => Sys2Proof.Machine.execSubmitDataDmaIrqCmd k s
  | .submitDataDmaIrqThr k => Sys2Proof.Machine.execSubmitDataDmaIrqThr k s
  | .submitDataDmaPoll k => Sys2Proof.Machine.execSubmitDataDmaPoll k s
  | .submitNodataIrq k => Sys2Proof.Machine.execSubmitNodataIrq k s
  | .submitNodataPoll k => Sys2Proof.Machine.execSubmitNodataPoll k s
  | .fieldGet w lo n => Sys2Proof.Machine.execFieldGet w lo n s
  | .fieldSet w lo n v => Sys2Proof.Machine.execFieldSet w lo n v s
  | .regRd r => Sys2Proof.Machine.execRegRd r s
  | .regWr r w => Sys2Proof.Machine.execRegWr r w s
  | .regWrMasked m w => Sys2Proof.Machine.execRegWrMasked m w s
  | .cmdEncode opcode arg rsp hasData => Sys2Proof.Machine.execCmdEncode opcode arg rsp hasData s
  | .rspNone c => Sys2Proof.Machine.execRspNone c s
  | .rspGet48 c => Sys2Proof.Machine.execRspGet48 c s
  | .rspGet136 c => Sys2Proof.Machine.execRspGet136 c s
  | .dataCfg => Sys2Proof.Machine.execDataCfg s
  | .dataCfgDma => Sys2Proof.Machine.execDataCfgDma s
  | .dataCfgPio => Sys2Proof.Machine.execDataCfgPio s
  | .pioXfer => Sys2Proof.Machine.execPioXfer s
  | .pioWrWord buf off => Sys2Proof.Machine.execPioWrWord buf off s
  | .pioRdWord buf off => Sys2Proof.Machine.execPioRdWord buf off s
  | .submit req => Sys2Proof.Machine.execSubmit req s
  | .finishMapfail => Sys2Proof.Machine.execFinishMapfail s
  | .trigger v => Sys2Proof.Machine.execTrigger v s
  | .finish => Sys2Proof.Machine.execFinish s
  | .stopIssue => Sys2Proof.Machine.execStopIssue s
  | .notify req => Sys2Proof.Machine.execNotify req s
  | .waitUntil b => Sys2Proof.Machine.execWaitUntil b s
  | .waitFinish => Sys2Proof.Machine.execWaitFinish s
  | .waitRspFull => Sys2Proof.Machine.execWaitRspFull s
  | .waitTxEmpty => Sys2Proof.Machine.execWaitTxEmpty s
  | .waitRxFull => Sys2Proof.Machine.execWaitRxFull s
  | .checkError => Sys2Proof.Machine.execCheckError s
  | .delayBump x => Sys2Proof.Machine.execDelayBump x s
  | .swReset => Sys2Proof.Machine.execSwReset s
  | .timingWriteback => Sys2Proof.Machine.execTimingWriteback s
  | .irqEntry => Sys2Proof.Machine.execIrqEntry s
  | .irqCmdDone => Sys2Proof.Machine.execIrqCmdDone s
  | .irqCard => Sys2Proof.Machine.execIrqCard s
  | .deferredFinish => Sys2Proof.Machine.execDeferredFinish s
  | .setClock rate => Sys2Proof.Machine.execSetClock rate s
  | .setTimingMode mode ddr => Sys2Proof.Machine.execSetTimingMode mode ddr s
  | .timingProgram => Sys2Proof.Machine.execTimingProgram s
  | .setBusWidth width => Sys2Proof.Machine.execSetBusWidth width s
  | .setPower power => Sys2Proof.Machine.execSetPower power s
  | .cardDetect => Sys2Proof.Machine.execCardDetect s
  | .voltageSwitch volt => Sys2Proof.Machine.execVoltageSwitch volt s
  | .attach base srcClk => Sys2Proof.Machine.execAttach base srcClk s
  | .detach => Sys2Proof.Machine.execDetach s
  | .bTrigger => Sys2Proof.Machine.execBTrigger s
  | .bRsp a => Sys2Proof.Machine.execBRsp a s
  | .bDataDma a => Sys2Proof.Machine.execBDataDma a s
  | .bDataPio a => Sys2Proof.Machine.execBDataPio a s
  | .bEnd a => Sys2Proof.Machine.execBEnd a s
  | .bCardIrq => Sys2Proof.Machine.execBCardIrq s
  | .bSwReset => Sys2Proof.Machine.execBSwReset s

end Sys2Proof.Machine
end

