-- ==== Sys2Proof/Machine/Frames.lean ====
section
/-! DEFINITION. What part each operation plays, and what an agent's next turn does: the top of its stack (10_state.md R47, 46_bounded_waits.md R310). `run`
is the meaning of operations. -/

namespace Sys2Proof.Machine

/-! ### What part an operation plays -/

/-- What part an operation plays: who starts it, and when (00_scope.md R4, 10_state.md R48, 48_interrupt_deferred.md R378,
60_exceptions.md R466; entries 22, 42). -/
inductive Role where
  /-- register accesses and field operations, which every context makes (60_exceptions.md R466), and `B_SW_RESET`, which
  runs in one step with a write of `CTRL` (49_host_and_bus_interfaces.md R431) -/
  | access
  /-- a raw trigger: a write of `CTRL` that triggers, and `B_TRIGGER`, which runs in one step with it (R420) -/
  | trigger
  /-- what `FINISH` runs inline without a bounded wait (45_transaction_controller.md R280) -/
  | closing
  /-- the bounded waits, and the decoders that wait (46_bounded_waits.md R310, 42_response_decoder.md R201, R202) -/
  | waiting
  /-- what prepares and moves a transaction, inline in `SUBMIT`, and `TIMING_PROGRAM`, which is inline in
  `SET_TIMING_MODE` (45_transaction_controller.md R271, 49_host_and_bus_interfaces.md R402); what `TIMING_PROGRAM` does
  when it is started by itself is the model's choice (entries 42, 49) -/
  | preparing
  /-- `STOP_ISSUE`, inline in `FINISH` (R282) -/
  | stop
  /-- the paths of `SUBMIT`, which the submission context runs inline (R272 to R278) -/
  | path
  /-- `FINISH` (R280) -/
  | finish
  /-- `SUBMIT` and the entry points of U (R271, 49_host_and_bus_interfaces.md R400) -/
  | entry
  /-- `ATTACH` (R407) -/
  | attach
  /-- `IRQ_ENTRY` (48_interrupt_deferred.md R371) -/
  | irqEntry
  /-- the arms of the interrupt handler (R372, R375) -/
  | interrupt
  /-- `DEFERRED_FINISH` (R374) -/
  | deferred
  /-- the bus engine's own steps (49_host_and_bus_interfaces.md R421 to R430). `B_TRIGGER` and `B_SW_RESET` are not among
  them: an engine that is idle takes no step but `B_CARD_IRQ` (R432) -/
  | engine
deriving DecidableEq, Repr

/-- The write word of `CTRL` triggers (40_register_access.md R167). -/
def triggersBy (w : Word) : Bool := (maskHalf w &&& valueHalf w).getLsbD 0

/-- The part of a write of `CTRL`. -/
def ctrlRole (w : Word) : Role := if triggersBy w then .trigger else .access

/-- The part of a masked write. -/
def maskedRole (m : MaskedReg) (w : Word) : Role :=
  match m with
  | .config => .access
  | .ctrl => ctrlRole w
  | .int => .access
  | .timing => .access
  | .clkcfg => .access

/-- The part each operation plays. -/
def roleOf : Instr → Role
  | .rdCmdbuf => .access
  | .wrCmdbuf _ => .access
  | .rdCmdargLo => .access
  | .wrCmdargLo _ => .access
  | .rdRspbufHi => .access
  | .wrRspbufHi _ => .access
  | .rdRspbufLo => .access
  | .wrRspbufLo _ => .access
  | .rdConfig => .access
  | .wrConfig _ => .access
  | .rdCtrl => .access
  | .wrCtrl w => ctrlRole w
  | .rdInt => .access
  | .wrInt _ => .access
  | .rdState => .access
  | .wrState _ => .access
  | .rdStatus => .access
  | .wrStatus _ => .access
  | .rdTiming => .access
  | .wrTiming _ => .access
  | .rdClkcfg => .access
  | .wrClkcfg _ => .access
  | .rdBlksize => .access
  | .wrBlksize _ => .access
  | .rdBlkcnt => .access
  | .wrBlkcnt _ => .access
  | .rdDataTx => .access
  | .wrDataTx _ => .access
  | .rdDataRx => .access
  | .wrDataRx _ => .access
  | .rdDmaBase0 => .access
  | .wrDmaBase0 _ => .access
  | .rdDmaSize0 => .access
  | .wrDmaSize0 _ => .access
  | .rdDmaBase1 => .access
  | .wrDmaBase1 _ => .access
  | .rdDmaSize1 => .access
  | .wrDmaSize1 _ => .access
  | .rdDmaBase2 => .access
  | .wrDmaBase2 _ => .access
  | .rdDmaSize2 => .access
  | .wrDmaSize2 _ => .access
  | .rdDmaBase3 => .access
  | .wrDmaBase3 _ => .access
  | .rdDmaSize3 => .access
  | .wrDmaSize3 _ => .access
  | .rdDmaBase4 => .access
  | .wrDmaBase4 _ => .access
  | .rdDmaSize4 => .access
  | .wrDmaSize4 _ => .access
  | .rdDmaBase5 => .access
  | .wrDmaBase5 _ => .access
  | .rdDmaSize5 => .access
  | .wrDmaSize5 _ => .access
  | .rdDmaBase6 => .access
  | .wrDmaBase6 _ => .access
  | .rdDmaSize6 => .access
  | .wrDmaSize6 _ => .access
  | .rdDmaBase7 => .access
  | .wrDmaBase7 _ => .access
  | .rdDmaSize7 => .access
  | .wrDmaSize7 _ => .access
  | .submitR136 _ => .path
  | .submitDataPio _ => .path
  | .submitDataDmaIrqCmd _ => .path
  | .submitDataDmaIrqThr _ => .path
  | .submitDataDmaPoll _ => .path
  | .submitNodataIrq _ => .path
  | .submitNodataPoll _ => .path
  | .fieldGet _ _ _ => .access
  | .fieldSet _ _ _ _ => .access
  | .regRd _ => .access
  | .regWr _ _ => .access
  | .regWrMasked m w => maskedRole m w
  | .cmdEncode _ _ _ _ => .preparing
  | .rspNone _ => .closing
  | .rspGet48 _ => .waiting
  | .rspGet136 _ => .waiting
  | .dataCfg => .preparing
  | .dataCfgDma => .preparing
  | .dataCfgPio => .preparing
  | .pioXfer => .preparing
  | .pioWrWord _ _ => .preparing
  | .pioRdWord _ _ => .preparing
  | .submit _ => .entry
  | .finishMapfail => .path
  | .trigger _ => .preparing
  | .finish => .finish
  | .stopIssue => .stop
  | .notify _ => .closing
  | .waitUntil _ => .waiting
  | .waitFinish => .waiting
  | .waitRspFull => .waiting
  | .waitTxEmpty => .waiting
  | .waitRxFull => .waiting
  | .checkError => .closing
  | .delayBump _ => .closing
  | .swReset => .closing
  | .timingWriteback => .closing
  | .irqEntry => .irqEntry
  | .irqCmdDone => .interrupt
  | .irqCard => .interrupt
  | .deferredFinish => .deferred
  | .setClock _ => .entry
  | .setTimingMode _ _ => .entry
  | .timingProgram => .preparing
  | .setBusWidth _ => .entry
  | .setPower _ => .entry
  | .cardDetect => .entry
  | .voltageSwitch _ => .entry
  | .attach _ _ => .attach
  | .detach => .entry
  | .bTrigger => .trigger
  | .bRsp _ => .engine
  | .bDataDma _ => .engine
  | .bDataPio _ => .engine
  | .bEnd _ => .engine
  | .bCardIrq => .engine
  | .bSwReset => .access

/-- `STOP_ISSUE`. -/
def isStopIssue (i : Instr) : Bool := roleOf i == .stop

/-- `FINISH`. -/
def isFinish (i : Instr) : Bool := roleOf i == .finish

/-- `ATTACH` is the one operation without a Host (X7). -/
def isAttach (i : Instr) : Bool := roleOf i == .attach

/-- Operations only the bus engine runs. -/
def engineOnly (i : Instr) : Bool := roleOf i == .engine

/-- Operations only the interrupt service unit runs. -/
def interruptOnly (i : Instr) : Bool := roleOf i == .irqEntry || roleOf i == .interrupt

/-- The one operation only the deferred unit runs. -/
def deferredOnly (i : Instr) : Bool := roleOf i == .deferred

/-- Operations only the submission context runs: `SUBMIT`, its paths, and the entry points (60_exceptions.md R466). -/
def submissionOnly (i : Instr) : Bool := roleOf i == .path || roleOf i == .entry || roleOf i == .attach

/-- Operations that prepare, move or close a transaction inline: while a Request is outstanding nobody starts one
(10_state.md R48, 20_memory.md R86, entry 42). -/
def inlineOnly (i : Instr) : Bool :=
  match roleOf i with
  | .closing => true
  | .waiting => true
  | .preparing => true
  | .stop => true
  | .path => true
  | .access => false
  | .trigger => false
  | .finish => false
  | .entry => false
  | .attach => false
  | .irqEntry => false
  | .interrupt => false
  | .deferred => false
  | .engine => false

/-- Raw triggers: they trigger without moving `tc_state`. -/
def rawTrigger (i : Instr) : Bool := roleOf i == .trigger

/-- The interrupt service unit starts the interrupt operations; like every context it reads and writes every register, and
it may run `FINISH` and what `FINISH` runs without a bounded wait (48_interrupt_deferred.md R378, 60_exceptions.md R466,
entry 22). -/
def interruptMayRun : Role → Bool
  | .access => true
  | .trigger => true
  | .closing => true
  | .finish => true
  | .irqEntry => true
  | .interrupt => true
  | .waiting => false
  | .preparing => false
  | .stop => false
  | .path => false
  | .entry => false
  | .attach => false
  | .deferred => false
  | .engine => false

/-- The deferred unit starts `DEFERRED_FINISH`; it reads and writes every register, and may run `FINISH` and all that
`FINISH` runs, its waits among them (48_interrupt_deferred.md R374, R378, 60_exceptions.md R466, entry 22). -/
def deferredMayRun : Role → Bool
  | .access => true
  | .trigger => true
  | .closing => true
  | .waiting => true
  | .stop => true
  | .finish => true
  | .deferred => true
  | .preparing => false
  | .path => false
  | .entry => false
  | .attach => false
  | .irqEntry => false
  | .interrupt => false
  | .engine => false

/-- The agent may start this operation: P what the submission context runs, I and W what theirs run, B the steps of a
transaction and `B_CARD_IRQ` (00_scope.md R4, 48_interrupt_deferred.md R378, 49_host_and_bus_interfaces.md R432,
60_exceptions.md R466, entry 22). -/
def agentMayRun (a : Agent) (i : Instr) : Bool :=
  match a with
  | .b => engineOnly i
  | .i => interruptMayRun (roleOf i)
  | .w => deferredMayRun (roleOf i)
  | .p _ => !engineOnly i && !interruptOnly i && !deferredOnly i

/-! ### Running an operation -/

/-- The acting agent may take the machine out of its waiting state: P behind the waits of its path, and, once the
completion interrupt was taken, I for a request without a stop command, and W (10_state.md R48, 60_exceptions.md R466).
A late item of the deferred slot finds a Request whose interrupt has not been taken, and does nothing
(48_interrupt_deferred.md R374). A `FINISH` on the
stack of P stands behind the waits of its path; one that is started by itself never gets here with a Request that waits
(`notStarted`). -/
def leavesWaiting (s : State) : Bool :=
  match s.actor with
  | .p _ => s.host.tc == .waitingPoll
  | .i => s.host.tc == .waitingInterrupt && s.host.cmpTaken && !(currentCmd s .stop).isSome
  | .w => s.host.tc == .waitingInterrupt && s.host.cmpTaken
  | .b => false

/-- The guard of `FINISH` decides alone: no Request is outstanding, or another agent is finishing it
(45_transaction_controller.md R281). -/
def finishGuarded (tc : TcState) : Bool := tc == .idle || tc == .finishing

/-- The acting agent runs an operation: agent I never runs `STOP_ISSUE` (R378, entry 22); a `FINISH` whose agent or whose
moment is not one of 10_state.md R48 returns having done nothing (45_transaction_controller.md R281, entry 42). -/
def runCall (run : Instr → State → Res) (i : Instr) (s : State) : Res :=
  if s.actor = .i ∧ isStopIssue i then .refused .wrongAgent
  else if isFinish i ∧ ¬ finishGuarded s.host.tc ∧ ¬ leavesWaiting s then .next s
  else run i s

/-- An operation blocked in its acquire runs once the mutex is free (10_state.md R50, entry 16). A `SUBMIT` is tested
again at that turn for what R271 tests before the acquire: blocked across `DETACH` and `ATTACH` it is then refused until
clock and `TIMING` have been set again (DESIGN CHOICE, entry 16). -/
def retryBlocked (run : Instr → State → Res) (i : Instr) (s : State) : Res := whenUnlocked i s (runCall run i s)

/-- The settling delay is over, or goes on (47_error_classifier_tuner.md R343). -/
def serveSettling (until_ : Nat) (s : State) : Res :=
  if until_ ≤ s.now then .next s else .next (pushFrames [.settle until_] s)

/-- Run a frame that has been taken off the acting agent's stack. -/
def runFrame (run : Instr → State → Res) (f : Frame) (s : State) : Res :=
  match f with
  | .call i => runCall run i s
  | .blocked i => retryBlocked run i s
  | .poll b deadline => waitBit b deadline s
  | .rsp48 c deadline => poll48 c deadline s
  | .rsp136 c pairs deadline => poll136 c pairs deadline s
  | .pioWord dir buf off deadline => pollPioWord dir buf off deadline s
  | .pioNext dir off segs => pumpNext dir off segs s
  | .settle u => serveSettling u s
  | .needTuning e => .next (setNeedTuning e s)
  | .afterEncode => afterEncode s
  | .afterCfg => afterCfg s
  | .submitReturn => .next (submitReturn s)
  | .enterFinishing => .next (enterFinishing s)
  | .tailR136 => .next (finishRequest s)
  | .tailFinish => .next (tailFinish s)
  | .stopCheck => stopCheck s

/-- The acting agent's stack without its top. -/
def popFrame (rest : List Frame) (s : State) : State := setCtx s s.actor { actorCtx s with stack := rest }

/-- The acting agent takes its next turn; an agent with nothing to do lets it pass (entry 23). -/
def resumeActor (run : Instr → State → Res) (s : State) : Res :=
  match (actorCtx s).stack with
  | [] => .next s
  | f :: rest => runFrame run f (popFrame rest s)

end Sys2Proof.Machine
end

