-- ==== Sys2Proof/Machine/Fetch.lean ====
section
/-! DEFINITION. Taking the next event of the schedule: fetching and decoding an operation, who may run it
(00_scope.md R4, 60_exceptions.md R466), and the events of the environment (entries 1, 2, 22). -/

namespace Sys2Proof.Machine

/-! ### Who starts what, and when -/

/-- An agent that stands inside an operation starts no other (10_state.md R47, 46_bounded_waits.md R310,
47_error_classifier_tuner.md R343, entry 41), but for `IRQ_ENTRY`, which finds that out itself (60_exceptions.md R458). -/
def mustWait (a : Agent) (i : Instr) (s : State) : Bool :=
  !(getCtx s a).stack.isEmpty && roleOf i != .irqEntry

/-! ### Cancel requests (45_transaction_controller.md R286, entry 16) -/

/-- The Request of a `SUBMIT`. -/
def submittedRequest : Instr → Option Request
  | .submit r => some r
  | _ => none

/-- The Request of a `NOTIFY`. -/
def notifiedRequest : Instr → Option Request
  | .notify r => some r
  | _ => none

/-- The thread whose pending cancel request meets a `SUBMIT` of a well-formed Request. -/
def cancelMeets (a : Agent) (i : Instr) (s : State) : Option Nat :=
  match a, submittedRequest i with
  | .p tid, some r => if s.cancels.contains tid && submittable s r then some tid else none
  | _, _ => none

/-- The pending cancel request wins: always while the mutex is held, and by no law while it is free (R286). -/
def cancelWins (s : State) : Bool :=
  match s.host.lock with
  | .held => true
  | .free => Config.freeBool s.draws

/-- The acquire of thread `tid` meets its pending cancel request, which is then spent: `SUBMIT` is aborted, or goes on
(R286). -/
def submitCancelled (run : Instr → State → Res) (tid : Nat) (i : Instr) (s : State) : Res :=
  let t := (s.setCancels (s.cancels.erase tid)).setDraws (s.draws + 1)
  if cancelWins s then .next (t.emit (.submitAborted tid)) else runCall run i t

/-! ### Starting an operation -/

/-- An operation that only the path of a transaction runs while a Request is outstanding: the inline operations, and a
`FINISH` that would claim the Request (10_state.md R48, entry 42). -/
def notStarted (i : Instr) (tc : TcState) : Bool :=
  (inlineOnly i && tc != .idle) || (isFinish i && !finishGuarded tc)

/-- The completion arm would finish a Request whose completion interrupt has neither come nor been taken: behind the test
of `IRQ_ENTRY` it is not reached (48_interrupt_deferred.md R371, entries 23, 42). A duplicate of an interrupt that has
been taken reaches it (R377). -/
def armNotDue (i : Instr) (s : State) : Bool :=
  i == .irqCmdDone && s.host.tc == .waitingInterrupt && !s.host.cmpTaken && !(s.reg.cmpEn && s.reg.cmpPend)

/-- Agent `a` starts operation `i`. What it starts while no Request is outstanding runs without the submission mutex, and
goes on when another thread takes the mutex (entry 49). -/
def startInstr (run : Instr → State → Res) (a : Agent) (i : Instr) (s : State) : Res :=
  if ¬ agentMayRun a i then .refused .wrongAgent
  else if ¬ s.host.attached ∧ ¬ isAttach i then .refused .notAttached
  else if mustWait a i s then .refused .agentBusy
  else if notStarted i s.host.tc then .refused .inlineOnly
  else if armNotDue i s then .next s
  else
    match cancelMeets a i s with
    | some tid => submitCancelled run tid i (s.setActor a)
    | none => runCall run i (s.setActor a)

/-- Fetch and decode: in format `MMIO` the offset is the platform's, and the register is the one that stands there
(00_scope.md R7 `OFF_<reg>`, 30_encoding.md R141). -/
def fetchInstr (c : Cfg) (f : Format) (bytes : List Byte) : Except DecodeError (Instr × List Byte) :=
  match f, bytes with
  | .mmio, off :: rest =>
    match c.refAt off.toNat with
    | some ref => decode .mmio (BitVec.ofNat 8 ref :: rest)
    | none => .error (.noSuchKey off.toNat)
  | f, bytes => decode f bytes

/-- Agent `a` starts the operation that `bytes` encode. -/
def startBytes (run : Instr → State → Res) (a : Agent) (f : Format) (bytes : List Byte) (s : State) : Res :=
  match fetchInstr s.cfg f bytes with
  | .error e => .refused (.undecodable e)
  | .ok (i, _) => startInstr run a i s

/-- Agent `a` takes its next turn. -/
def resumeAgent (run : Instr → State → Res) (a : Agent) (s : State) : Res :=
  match (getCtx s a).stack, s.host.attached with
  | [], _ => .next s
  | _ :: _, true => resumeActor run (s.setActor a)
  | _ :: _, false => .refused .notAttached

/-- A cancel request of the submitter of a thread: a `SUBMIT` blocked in its acquire returns `SUBMIT_ABORTED`; of a thread
that has nothing to do it stays pending for its next `SUBMIT`; inside any other operation, and once `SUBMIT` has the mutex,
it has no effect (45_transaction_controller.md R286, entry 16). -/
def signalThread (tid : Nat) (s : State) : State :=
  match (getCtx s (.p tid)).stack with
  | [] => if s.cancels.contains tid then s else s.setCancels (tid :: s.cancels)
  | .blocked i :: rest =>
    if (submittedRequest i).isSome then
      (setCtx s (.p tid) { getCtx s (.p tid) with stack := rest }).emit (.submitAborted tid)
    else s
  | _ => s

/-! ### U's writes of its buffers -/

/-- The scatter list of a Request's data holds the buffer. -/
def Request.holdsBuffer (buf : Word) (r : Request) : Bool := r.data.any fun d => d.sg.any fun g => g.buf == buf

/-- The Request a frame stands for: one that has been submitted and not recorded yet, or finished and not notified yet. -/
def frameRequest : Frame → Option Request
  | .blocked i => submittedRequest i
  | .call i => notifiedRequest i
  | _ => none

/-- A Request with this buffer is between its `SUBMIT` and its `NOTIFY` (70_reset_and_hazards.md R521). -/
def bufferInRequest (buf : Word) (s : State) : Bool :=
  (s.host.mrq.any fun r => Request.holdsBuffer buf r) ||
    (s.p ++ [s.i, s.w]).any fun c => c.stack.any fun f => (frameRequest f).any fun r => Request.holdsBuffer buf r

/-- U may not write the buffer: it belongs to the bus engine, or to a DMA Request between its `SUBMIT` and its `NOTIFY`
(20_memory.md R87, 49_host_and_bus_interfaces.md R400, 70_reset_and_hazards.md R521). -/
def bufferMapped (buf : Word) (s : State) : Bool :=
  (s.host.dmaMapped.isSome || s.host.path == .dma) && bufferInRequest buf s

/-- U writes a byte of one of its buffers (49_host_and_bus_interfaces.md R400). -/
def upstreamWrite (buf : Word) (off : Nat) (v : Byte) (s : State) : Res :=
  if bufferMapped buf s then .refused .bufferMapped
  else .next (s.setBufMem (s.bufMem.write (bufKey buf off) v))

/-- One event of the schedule. -/
def takeEvent (run : Instr → State → Res) (e : Event) (s : State) : Res :=
  match e with
  | .run a f bytes => startBytes run a f bytes s
  | .resume a => resumeAgent run a s
  | .tick d => .next (s.setNow (s.now + d))
  | .signal tid => .next (signalThread tid s)
  | .uWrite buf off v => upstreamWrite buf off v s
  | .provide ok => .next (s.setPlat { s.plat with available := ok })

/-- One step: the next event of the schedule; with none left the machine waits (entry 1). -/
def stepWith (run : Instr → State → Res) (s : State) : Res :=
  match s.sched with
  | [] => .next s
  | e :: es => takeEvent run e (s.setSched es)

/-- The agent that runs an operation from a table word (entry 2). -/
def agentFor (i : Instr) : Agent :=
  if engineOnly i then .b else if interruptOnly i then .i else if deferredOnly i then .w else .p 0

/-- The agent of the operation a table word encodes. -/
def tableAgent (nbits w : Nat) : Agent :=
  match decodeTableWord nbits w with
  | some i => agentFor i
  | none => .p 0

end Sys2Proof.Machine
end

