-- ==== Sys2Proof/Machine/Step.lean ====
section
/-! DEFINITION. The step of the machine (00_scope.md R4, 10_state.md R59), and the state whose next step runs a given
table word. -/

namespace Sys2Proof.Machine

/-- One step: the next event of the schedule. -/
def step (s : State) : Host.Outcome State Fault Refusal := stepWith exec s

/-- The bytes of a table word as the platform of `c` writes them: an `MMIO` offset is the one at which the register
stands (00_scope.md R7 `OFF_<reg>`). -/
def placedBytes (c : Cfg) (f : Format) (bytes : List Byte) : List Byte :=
  match f, bytes with
  | .mmio, ref :: rest => BitVec.ofNat 8 (offsetIn c.moved ref.toNat) :: rest
  | _, bytes => bytes

/-- `s` with the instruction of a table word as the next event (entry 2). -/
def State.withFetchWord (s : State) (nbits w : Nat) : State :=
  s.setSched (.run (tableAgent nbits w) (tableFormat nbits w)
    (placedBytes s.cfg (tableFormat nbits w) (tableBytes nbits w)) :: s.sched)

end Sys2Proof.Machine
end

