-- ==== Sys2Proof/Safety.lean ====
section
/-! DEFINITION. What holds of a machine that runs as the spec says: the invariants claims are stated with. Each is about
one state or two. -/

namespace Sys2Proof.Machine

/-- Both memories are in their canonical form. -/
def State.memoryCanonical (s : State) : Prop := s.dmaMem.wf = true ∧ s.bufMem.wf = true

/-- Reserved bits hold 0 (10_state.md R39), and every field keeps to its width (30_encoding.md R126, R131 to R134). -/
def State.reservedZero (s : State) : Prop :=
  s.reg.config &&& ~~~configWritable = 0#16 ∧
  s.reg.timing &&& ~~~(timingWritable s.cfg) = 0#16 ∧
  s.reg.blksize &&& ~~~(blksizeWritable s.cfg) = 0#32 ∧
  s.reg.blkcnt &&& ~~~(blkcntWritable s.cfg) = 0#32 ∧
  ∀ k, (s.reg.slot k).addr &&& ~~~(addrWritable s.cfg) = 0#32

/-- At most one Request is outstanding, exactly while the machine is not `Idle` and the mutex is held (10_state.md
R60). -/
def State.oneOutstanding (s : State) : Prop :=
  (s.host.mrq.isSome = true ↔ s.host.tc ≠ .idle) ∧ (s.host.lock = .held ↔ s.host.tc ≠ .idle)

/-- A triggered transaction is in progress (10_state.md R60). -/
def inTransaction : TcState → Bool
  | .idle => false
  | .preparing => false
  | .triggered => true
  | .waitingPoll => true
  | .waitingInterrupt => true
  | .finishing => true

/-- The engine is busy only while a transaction that was triggered is in progress (10_state.md R60). -/
def State.busyInTransaction (s : State) : Prop := s.bus.phase = .busy → inTransaction s.host.tc = true

/-- The operation the next event starts, or calls from its agent's stack. -/
def State.nextOperation (s : State) : Option Instr :=
  match s.sched with
  | .run _ f bytes :: _ =>
    match fetchInstr s.cfg f bytes with
    | .ok (i, _) => some i
    | .error _ => none
  | .resume a :: _ =>
    match (getCtx s a).stack with
    | .call i :: _ => some i
    | .blocked i :: _ => some i
    | _ => none
  | _ => none

/-- The next step triggers outside the operations that trigger: a bare write of `CTRL`, which R466 leaves to every context
and which cannot depend on `tc_state`, because no bus access reads it (10_state.md R47),
`B_TRIGGER`, or a `STOP_ISSUE` before the primary trigger, which no operation calls (10_state.md R60, 60_exceptions.md R466,
entry 42). -/
def State.bareTrigger (s : State) : Prop :=
  ∃ i, s.nextOperation = some i ∧ (rawTrigger i = true ∨ (i = .stopIssue ∧ s.host.tc = .preparing))

/-- The buffer flags say what the data buffers hold, one word at a time (10_state.md R30, R54). -/
def State.buffersAgree (s : State) : Prop :=
  s.bus.txFifo.length = (if s.reg.txBufEmpty then 0 else 1) ∧
  s.bus.rxFifo.length = (if s.reg.rxBufFull then 1 else 0)

/-- `STATE.ERROR` is set exactly when a `STATUS` error bit is (49_host_and_bus_interfaces.md R428, R431). -/
def State.errorAgrees (s : State) : Prop := s.reg.error = true ↔ s.reg.errBits ≠ 0#6

/-- A busy engine has latched its registers (10_state.md R55). -/
def State.busyLatched (s : State) : Prop := s.bus.phase = .busy → s.bus.latched.isSome = true

/-- The five delays keep to `DLY_W` bits (10_state.md R45). -/
def State.delaysFit (s : State) : Prop :=
  s.host.tune.rdCrc &&& ~~~(delayMask s.cfg) = 0#3 ∧ s.host.tune.rdDat &&& ~~~(delayMask s.cfg) = 0#3 ∧
  s.host.tune.rdRsp &&& ~~~(delayMask s.cfg) = 0#3 ∧ s.host.tune.wrCmd &&& ~~~(delayMask s.cfg) = 0#3 ∧
  s.host.tune.wrDat &&& ~~~(delayMask s.cfg) = 0#3

/-- The spinlock is free between steps (10_state.md R51, entry 39). -/
def State.spinlockFree (s : State) : Prop := s.host.irqLock = .free

/-- The data path and the Host mode are those of `cfg` (70_reset_and_hazards.md R504). -/
def State.modeFixed (s : State) : Prop := s.host.path = s.cfg.path ∧ s.host.mode = s.cfg.mode

/-- Every byte of both memories reads in `t` as it reads in `s`. -/
def State.sameMemory (s t : State) : Prop :=
  (∀ a, t.dmaMem.read a = s.dmaMem.read a) ∧ ∀ a, t.bufMem.read a = s.bufMem.read a

/-- The engine can be triggered: idle, and settled (49_host_and_bus_interfaces.md R420, R431). -/
def State.engineReady (s : State) : Prop := s.bus.phase = .idle ∧ s.bus.readyAt ≤ s.now

/-- Nothing the machine has reached can be taken back: the parameters stay, the clock and the draws do not go back, and
what has been sent stays sent. -/
def State.continues (s t : State) : Prop :=
  t.cfg = s.cfg ∧ s.now ≤ t.now ∧ s.draws ≤ t.draws ∧ ∃ sent, t.out = sent ++ s.out

/-! ### Fairness of the clock (46_bounded_waits.md R319, entry 46) -/

/-- The clock value at which a frame's waiting ends at the latest. -/
def frameDeadline : Frame → Option Nat
  | .poll _ deadline => some deadline
  | .rsp48 _ deadline => some deadline
  | .rsp136 _ _ deadline => some deadline
  | .pioWord _ _ _ deadline => some deadline
  | .settle until_ => some until_
  | _ => none

/-- From clock value `now` on, the schedule brings the clock to `deadline` and then gives agent `a` a turn. -/
def turnAt (a : Agent) (deadline : Nat) : Nat → List Event → Prop
  | _, [] => False
  | now, .tick d :: es => turnAt a deadline (now + d) es
  | now, .resume d :: es => (d = a ∧ deadline ≤ now) ∨ turnAt a deadline now es
  | now, .run _ _ _ :: es => turnAt a deadline now es
  | now, .signal _ :: es => turnAt a deadline now es
  | now, .uWrite _ _ _ :: es => turnAt a deadline now es
  | now, .provide _ :: es => turnAt a deadline now es

/-- The fairness assumption of R319: the schedule brings every wait that an agent stands in to its deadline. Without it an
agent may poll for ever; no statement about one step needs it. -/
def State.fairClock (s : State) : Prop :=
  ∀ a f deadline, (getCtx s a).stack.head? = some f → frameDeadline f = some deadline → turnAt a deadline s.now s.sched

end Sys2Proof.Machine
end

