-- ==== Sys2Proof/WellFormed.lean ====
section
/-! DEFINITION. The well-formed instructions: those whose operands the encoder can write down. The conditions a
Request must meet to be submitted (45_transaction_controller.md R271) are not here: an ill-formed Request decodes, and
`SUBMIT` refuses it. -/

namespace Sys2Proof

/-- The numbers of a Command fit their encoding. -/
def Command.wf (c : Command) : Bool := decide (c.retries < 2 ^ 32)

/-- The length of a segment fits its encoding. -/
def Segment.wf (g : Segment) : Bool := decide (g.len < 2 ^ 64)

/-- The numbers and the scatter list of a Data Descriptor fit their encoding. -/
def DataDesc.wf (d : DataDesc) : Bool :=
  decide (d.blksz < 2 ^ 64) && decide (d.blocks < 2 ^ 64) && decide (d.bytesXfered < 2 ^ 64) &&
    decide (d.sg.length < 2 ^ 16) && d.sg.all Segment.wf

/-- Every part of a Request fits its encoding. -/
def Request.wf (r : Request) : Bool := r.cmd.wf && r.data.all DataDesc.wf && r.stop.all Command.wf

/-- The response bytes fit their encoding. -/
def RspAnswer.wf : RspAnswer → Bool
  | .nothing => true
  | .bytes bs _ => decide (bs.length < 2 ^ 8)

/-- The bytes, or the byte count, of a DMA answer fit their encoding. -/
def DmaAnswer.wf : DmaAnswer → Bool
  | .read bs => decide (bs.length < 2 ^ 16)
  | .take n => decide (n < 2 ^ 16)
  | .fail => true

/-- The well-formed instructions. A row of format `REQ` holds a key that selects that row (30_encoding.md R139). -/
def Instr.wf : Instr → Bool
  | .rdCmdbuf => true
  | .wrCmdbuf _ => true
  | .rdCmdargLo => true
  | .wrCmdargLo _ => true
  | .rdRspbufHi => true
  | .wrRspbufHi _ => true
  | .rdRspbufLo => true
  | .wrRspbufLo _ => true
  | .rdConfig => true
  | .wrConfig _ => true
  | .rdCtrl => true
  | .wrCtrl _ => true
  | .rdInt => true
  | .wrInt _ => true
  | .rdState => true
  | .wrState _ => true
  | .rdStatus => true
  | .wrStatus _ => true
  | .rdTiming => true
  | .wrTiming _ => true
  | .rdClkcfg => true
  | .wrClkcfg _ => true
  | .rdBlksize => true
  | .wrBlksize _ => true
  | .rdBlkcnt => true
  | .wrBlkcnt _ => true
  | .rdDataTx => true
  | .wrDataTx _ => true
  | .rdDataRx => true
  | .wrDataRx _ => true
  | .rdDmaBase0 => true
  | .wrDmaBase0 _ => true
  | .rdDmaSize0 => true
  | .wrDmaSize0 _ => true
  | .rdDmaBase1 => true
  | .wrDmaBase1 _ => true
  | .rdDmaSize1 => true
  | .wrDmaSize1 _ => true
  | .rdDmaBase2 => true
  | .wrDmaBase2 _ => true
  | .rdDmaSize2 => true
  | .wrDmaSize2 _ => true
  | .rdDmaBase3 => true
  | .wrDmaBase3 _ => true
  | .rdDmaSize3 => true
  | .wrDmaSize3 _ => true
  | .rdDmaBase4 => true
  | .wrDmaBase4 _ => true
  | .rdDmaSize4 => true
  | .wrDmaSize4 _ => true
  | .rdDmaBase5 => true
  | .wrDmaBase5 _ => true
  | .rdDmaSize5 => true
  | .wrDmaSize5 _ => true
  | .rdDmaBase6 => true
  | .wrDmaBase6 _ => true
  | .rdDmaSize6 => true
  | .wrDmaSize6 _ => true
  | .rdDmaBase7 => true
  | .wrDmaBase7 _ => true
  | .rdDmaSize7 => true
  | .wrDmaSize7 _ => true
  | .submitR136 k => decide (reqRow k = some .r136)
  | .submitDataPio k => decide (reqRow k = some .dataPio)
  | .submitDataDmaIrqCmd k => decide (reqRow k = some .dataDmaIrqCmd)
  | .submitDataDmaIrqThr k => decide (reqRow k = some .dataDmaIrqThr)
  | .submitDataDmaPoll k => decide (reqRow k = some .dataDmaPoll)
  | .submitNodataIrq k => decide (reqRow k = some .nodataIrq)
  | .submitNodataPoll k => decide (reqRow k = some .nodataPoll)
  | .fieldGet _ _ _ => true
  | .fieldSet _ _ _ _ => true
  | .regRd r => decide (r.offset < 256)
  | .regWr r _ => decide ((Reg.plain r).offset < 256)
  | .regWrMasked _ _ => true
  | .cmdEncode _ _ _ _ => true
  | .rspNone _ => true
  | .rspGet48 _ => true
  | .rspGet136 _ => true
  | .dataCfg => true
  | .dataCfgDma => true
  | .dataCfgPio => true
  | .pioXfer => true
  | .pioWrWord _ off => decide (off < 2 ^ 64)
  | .pioRdWord _ off => decide (off < 2 ^ 64)
  | .submit req => req.wf
  | .finishMapfail => true
  | .trigger _ => true
  | .finish => true
  | .stopIssue => true
  | .notify req => req.wf
  | .waitUntil _ => true
  | .waitFinish => true
  | .waitRspFull => true
  | .waitTxEmpty => true
  | .waitRxFull => true
  | .checkError => true
  | .delayBump _ => true
  | .swReset => true
  | .timingWriteback => true
  | .irqEntry => true
  | .irqCmdDone => true
  | .irqCard => true
  | .deferredFinish => true
  | .setClock _ => true
  | .setTimingMode _ _ => true
  | .timingProgram => true
  | .setBusWidth _ => true
  | .setPower _ => true
  | .cardDetect => true
  | .voltageSwitch _ => true
  | .attach _ _ => true
  | .detach => true
  | .bTrigger => true
  | .bRsp a => a.wf
  | .bDataDma a => a.wf
  | .bDataPio _ => true
  | .bEnd _ => true
  | .bCardIrq => true
  | .bSwReset => true

end Sys2Proof
end

