-- ==== Sys2Proof/Certificates/Slice0/Obligations.lean ====
section
/-! DEFINITION. The statements about SDMMC-TE that are to be proved. Each docstring names the rules it is read from. Where
a statement's conclusion is `exec i s = .next t` with `t` written as named updates of `s`, everything the updates do not
name is unchanged: every register, every field of the Host, and every byte of both memories. -/

open Sys2Proof Sys2Proof.Machine

/-! ### Decoding and the step -/

/-- A step runs the decoded operation: the next event's bytes are fetched and decoded, and `exec` runs on the state
whose schedule has moved on and whose acting agent is the event's (00_scope.md R4; entries 1, 2). The conditions are
those under which this agent may start this operation at this moment: it runs such operations (entry 22), the Host
exists, it stands inside no other operation (entry 41), an inline operation finds no Request outstanding, `FINISH` none
that it would claim, the completion arm no Request whose completion interrupt has neither come nor been taken (entry
42), and no cancel request of the submitter is pending (entry 16). Every agent but the engine starts every register access
(60_exceptions.md R466). Fetching is decoding, but for format `MMIO`, where the register at a place is decoded as R121
numbers it, wherever `OFF_<reg>` puts it (00_scope.md R7, entry 4). -/
def Obligations.StepRunsDecodedInstruction : Prop :=
  (∀ (s : State) (a : Agent) (f : Format) (bytes rest : List Byte) (i : Instr) (es : List Event),
     s.sched = .run a f bytes :: es → fetchInstr s.cfg f bytes = .ok (i, rest) → agentMayRun a i = true →
     (s.host.attached = true ∨ isAttach i = true) → ((getCtx s a).stack = [] ∨ i = .irqEntry) →
     (inlineOnly i = true → s.host.tc = .idle) → (i = .finish → s.host.tc = .idle ∨ s.host.tc = .finishing) →
     (i = .irqCmdDone → s.host.tc = .waitingInterrupt →
       s.host.cmpTaken = true ∨ (s.reg.cmpEn = true ∧ s.reg.cmpPend = true)) →
     (∀ tid r, a = .p tid → i = .submit r → tid ∉ s.cancels) →
     step s = exec i ((s.setSched es).setActor a)) ∧
  (∀ (a : Agent) (i : Instr), a ≠ .b → i.access.isSome = true ∨ (∃ r, i = .regRd r) ∨ (∃ r w, i = .regWr r w) ∨
     (∃ m w, i = .regWrMasked m w) → agentMayRun a i = true) ∧
  (∀ (c : Cfg) (f : Format) (bytes : List Byte), f ≠ .mmio → fetchInstr c f bytes = decode f bytes) ∧
  ∀ (c : Cfg) (ref : Nat) (bytes : List Byte), c.legal = true → ref ∈ refOffsets →
    fetchInstr c .mmio (BitVec.ofNat 8 (offsetIn c.moved ref) :: bytes) = decode .mmio (BitVec.ofNat 8 ref :: bytes)

/-- A turn runs the top frame of the agent's stack, a tick moves the clock, and with nothing scheduled the machine waits
(10_state.md R47, R58; entry 1); that a turn of an agent with nothing to do changes only the schedule is the model's
choice (entry 23), and so is the event by which the platform's resources come and go (entry 47). U writes a byte of one
of its buffers, and no other byte changes; while the buffer belongs to a Request on the DMA path between its `SUBMIT`
and its `NOTIFY` the write is refused (20_memory.md R87, 49_host_and_bus_interfaces.md R400, 70_reset_and_hazards.md
R521; entry 48). -/
def Obligations.StepTakesTheNextEvent : Prop :=
  ∀ (s : State) (es : List Event),
    (s.sched = [] → step s = .next s) ∧
    (∀ d, s.sched = .tick d :: es → step s = .next ((s.setSched es).setNow (s.now + d))) ∧
    (∀ ok, s.sched = .provide ok :: es → step s = .next ((s.setSched es).setPlat { s.plat with available := ok })) ∧
    (∀ a, s.sched = .resume a :: es → (getCtx s a).stack = [] → step s = .next (s.setSched es)) ∧
    (∀ a f fs, s.sched = .resume a :: es → (getCtx s a).stack = f :: fs → s.host.attached = true →
      step s = runFrame exec f (popFrame fs ((s.setSched es).setActor a))) ∧
    ∀ buf off v, s.sched = .uWrite buf off v :: es →
      let holds := fun r : Request => ∃ d g, r.data = some d ∧ g ∈ d.sg ∧ g.buf = buf
      let given := (s.host.path = .dma ∨ s.host.dmaMapped ≠ none) ∧
        ((∃ r, s.host.mrq = some r ∧ holds r) ∨
          ∃ a r, holds r ∧ (Frame.blocked (.submit r) ∈ (getCtx s a).stack ∨ Frame.call (.notify r) ∈ (getCtx s a).stack))
      (given → step s = .refused .bufferMapped) ∧
      (¬ given → ∃ m, step s = .next ((s.setSched es).setBufMem m) ∧ (s.memoryCanonical →
        m.read (bufKey buf off) = v ∧ ∀ k, k ≠ bufKey buf off → m.read k = s.bufMem.read k))

/-- Who never starts what, and when. The engine's steps are the engine's alone and it starts no other, the interrupt
operations the interrupt unit's alone, and `DEFERRED_FINISH` the deferred unit's alone; those two start no submission,
no entry point and nothing that prepares a transaction; the interrupt unit starts no bounded wait and no stop command,
and never runs a stop command that stands on its stack (00_scope.md R4, 48_interrupt_deferred.md R371, R374, R378,
49_host_and_bus_interfaces.md R432, 60_exceptions.md R466; entry 22). Without a Host every operation but `ATTACH` is
refused (93_implementation_defined.md X7). An agent inside an operation starts no other (entry 41). While a Request is
outstanding no inline operation is started, and no `FINISH` but one that finds the Request being finished (10_state.md
R48; entry 42). A completion arm is not reached, and nothing changes, while the Request's completion interrupt has
neither come nor been taken (48_interrupt_deferred.md R371; entries 23, 42). -/
def Obligations.ForbiddenOperationsAreRefused : Prop :=
  ∀ (s : State) (a : Agent) (f : Format) (bytes rest : List Byte) (i : Instr) (es : List Event),
    s.sched = .run a f bytes :: es → fetchInstr s.cfg f bytes = .ok (i, rest) →
    (engineOnly i = true → a ≠ .b → step s = .refused .wrongAgent) ∧
    (a = .b → engineOnly i = false → step s = .refused .wrongAgent) ∧
    (interruptOnly i = true → a ≠ .i → step s = .refused .wrongAgent) ∧
    (i = .deferredFinish → a ≠ .w → step s = .refused .wrongAgent) ∧
    (a = .i ∨ a = .w → (submissionOnly i = true ∨ roleOf i = .preparing) → step s = .refused .wrongAgent) ∧
    (a = .i → (roleOf i = .waiting ∨ i = .stopIssue) → step s = .refused .wrongAgent) ∧
    (agentMayRun a i = true → s.host.attached = false → isAttach i = false → step s = .refused .notAttached) ∧
    (agentMayRun a i = true → s.host.attached = true →
      ((getCtx s a).stack ≠ [] → i ≠ .irqEntry → step s = .refused .agentBusy) ∧
      ((getCtx s a).stack = [] →
        (inlineOnly i = true → s.host.tc ≠ .idle → step s = .refused .inlineOnly) ∧
        (i = .finish → s.host.tc ≠ .idle → s.host.tc ≠ .finishing → step s = .refused .inlineOnly) ∧
        (i = .irqCmdDone → s.host.tc = .waitingInterrupt → s.host.cmpTaken = false →
          s.reg.cmpEn = false ∨ s.reg.cmpPend = false → step s = .next (s.setSched es)))) ∧
    ∀ t : State, t.actor = .i → runFrame exec (.call .stopIssue) t = .refused .wrongAgent

/-- Some words of the encoding tables: the keys and ids are written out from 30_encoding.md R121, R139, R140, R141 (a
register write and a register read, a dispatch key, and operation ids), and the operand bytes behind them, with their
order, are the model's layout (entry 3); and bytes that encode nothing. -/
def Obligations.SomeWordsDecode : Prop :=
  decode .mmio [0x2C#8, 0x01#8, 0xFF#8, 0x01#8, 0x00#8, 0x00#8] = .ok (.wrBlksize 0x000001FF#32, []) ∧
  decode .mmio [0x1C#8, 0x00#8] = .ok (.rdState, []) ∧
  decode .mmio [0x48#8, 0x01#8, 0x00#8, 0x00#8, 0x40#8, 0x80#8] = .ok (.wrDmaBase1 0x80400000#32, []) ∧
  decode .req [0x40#8] = .ok (.submitR136 0x40#7, []) ∧
  decode .req [0x34#8] = .ok (.submitDataDmaPoll 0x34#7, []) ∧
  decode .req [0x50#8] = .error (.illFormedKey 0x50) ∧
  decode .seq [0x39#8] = .ok (.finish, []) ∧
  decode .seq [0x49#8, 0x03#8] = .ok (.delayBump .wrCmd, []) ∧
  decode .seq [0x01#8, 0x70#8, 0x04#8, 0x00#8, 0x00#8, 0x04#8, 0x03#8] = .ok (.fieldGet 0x00000470#32 4#8 3#8, []) ∧
  decode .mmio [0x3C#8, 0x00#8] = .error (.noSuchKey 0x3C) ∧
  decode .seq [0x00#8] = .error (.noSuchOperation 0)

/-- Decoding what the encoder writes gives the instruction back and leaves the bytes behind it, for every well-formed
instruction of every format (30_encoding.md R139 to R141; the operand layout is the model's, entry 3). -/
def Obligations.DecodeOfEncode : Prop :=
  ∀ (i : Instr) (rest : List Byte), i.wf = true → decode (formatOf i) (encode i ++ rest) = .ok (i, rest)

/-- The dispatch key of a well-formed Request selects the path of R287, for every Request, data path and use-interrupt
flag: the table of R139 and the branches of R271 agree. `large` stands for a transfer above the threshold. -/
def Obligations.DispatchKeySelectsThePath : Prop :=
  ∀ (c : Cfg) (path : PathMode) (useInt : Bool) (r : Request), requestWellFormed c path r = true →
    let large := r.data.any fun d => decide (c.dmaIntThreshold < d.size)
    reqRow (dispatchKey c path useInt r) = some
      (if r.cmd.rsp = .r136 then .r136
       else if r.data.isSome then
         (if path = .pio then .dataPio
          else if useInt then .dataDmaIrqCmd
          else if large then .dataDmaIrqThr
          else .dataDmaPoll)
       else if useInt then .nodataIrq
       else .nodataPoll)

/-! ### Reset and invariants -/

/-- The values R61 gives after `ATTACH` stand in the reset state (10_state.md R61, 70_reset_and_hazards.md R502). The
values of what R61 calls unspecified are the model's (entries 6, 7) and are not stated. That both memories list nothing is
the model's choice (entry 11). -/
def Obligations.ResetHoldsTheGivenValues : Prop :=
  let s := State.reset
  s.reg.config = 0#16 ∧ s.reg.cmpEn = false ∧ s.reg.cardEn = true ∧ s.reg.cmpPend = false ∧ s.reg.cardPend = false ∧
  s.reg.finished = false ∧ s.reg.error = false ∧ s.reg.errBits = 0#6 ∧ s.reg.rspBufFull = false ∧
  s.reg.rxBufFull = false ∧ s.reg.txBufEmpty = true ∧ s.bus.rspStream = [] ∧ s.bus.txFifo = [] ∧ s.bus.rxFifo = [] ∧
  s.bus.phase = .idle ∧ s.bus.latched = none ∧ s.bus.dmaSlot = 0 ∧ s.bus.dmaOff = 0 ∧ s.host.tc = .idle ∧
  s.host.mrq = none ∧ s.host.lock = .free ∧ s.host.irqLock = .free ∧ s.host.deferred = false ∧
  s.host.tune = { rdCrc := 0#3, rdDat := 0#3, rdRsp := 0#3, wrCmd := 0#3, wrDat := 0#3, needTuning := .none } ∧
  s.host.dmaIntReq = false ∧ s.host.waitFailed = false ∧ s.host.dmaMapped = none ∧
  s.host.path = s.cfg.path ∧ s.host.mode = s.cfg.mode ∧ s.dmaMem = [] ∧ s.bufMem = []

/-- The reset state meets every invariant: those over the values of R61, and those that are the model's own, the canonical
form of the memories (entry 11), and the free spinlock and the fixed modes (entry 39). -/
def Obligations.ResetMeetsTheInvariants : Prop :=
  State.reset.memoryCanonical ∧ State.reset.reservedZero ∧ State.reset.oneOutstanding ∧ State.reset.buffersAgree ∧
  State.reset.errorAgrees ∧ State.reset.busyLatched ∧ State.reset.busyInTransaction ∧ State.reset.delaysFit ∧
  State.reset.spinlockFree ∧ State.reset.modeFixed

/-- Every step keeps both memories in canonical form. -/
def Obligations.StepKeepsMemoryCanonical : Prop :=
  ∀ s t : State, s.memoryCanonical → step s = .next t → t.memoryCanonical

/-- Every step keeps the one-outstanding-request invariant (10_state.md R60, 45_transaction_controller.md R284). The
engine is busy only in a triggered transaction (10_state.md R60): a step keeps that too, but for a bare trigger, which
R466 leaves to every context and whose write of `CTRL` reads no `tc_state` (10_state.md R47, 60_exceptions.md R466; entry
42), and for the tail of a transaction that it finishes while the engine still runs, as after a wait that failed without
an error state (47_error_classifier_tuner.md R348, 70_reset_and_hazards.md R506; entry 42). -/
def Obligations.StepKeepsOneOutstanding : Prop :=
  ∀ s t : State, s.oneOutstanding → step s = .next t →
    t.oneOutstanding ∧
    (s.busyInTransaction → ¬ s.bareTrigger → t.busyInTransaction ∨ (s.bus.phase = .busy ∧ s.host.tc ≠ .idle ∧ t.host.tc = .idle))

/-- Every step keeps the reserved bits of every register 0 (10_state.md R39). -/
def Obligations.StepKeepsReservedBitsZero : Prop :=
  ∀ s t : State, s.reservedZero → step s = .next t → t.reservedZero

/-- Every step keeps the buffer flags in agreement with the data buffers, the error bit in agreement with the detailed
error bits, and a busy engine latched (10_state.md R30, R54, R55, 49_host_and_bus_interfaces.md R428, R431). -/
def Obligations.StepKeepsFlagsAgreeing : Prop :=
  ∀ s t : State, s.buffersAgree ∧ s.errorAgrees ∧ s.busyLatched → step s = .next t →
    t.buffersAgree ∧ t.errorAgrees ∧ t.busyLatched

/-- Every step keeps the delays in their width, the spinlock free, and the data path and Host mode those of `cfg`
(10_state.md R45, R51, 70_reset_and_hazards.md R504). -/
def Obligations.StepKeepsTuningAndModes : Prop :=
  ∀ s t : State, s.delaysFit ∧ s.spinlockFree ∧ s.modeFixed → step s = .next t →
    t.delaysFit ∧ t.spinlockFree ∧ t.modeFixed

/-- No step takes anything back: the parameters stay and the clock never decreases (00_scope.md R7, 10_state.md R58). That
the draw counter never decreases and that what has been sent stays sent is about fields of the model's own (entries 9,
38). -/
def Obligations.StepNeverGoesBack : Prop :=
  ∀ s t : State, step s = .next t → s.continues t

/-! ### Register reads (family 40) -/

/-- A read of a register without side effects returns it, from the bus or as `REG_RD`, and changes nothing else
(10_state.md R22, R23, R26, R27, R31 to R34, R37, R38; 40_register_access.md R162). That it does so also while a
transaction is in flight is the model's reading (entry 40). -/
def Obligations.ReadsReturnTheRegister : Prop :=
  ∀ (s : State) (i : Instr) (r : Reg) (w : Word), i.access = some (.rd r) ∨ i = .regRd r →
    (match r with
     | .plain .cmdbuf => w = s.reg.cmdbuf
     | .plain .cmdargLo => w = s.reg.cmdargLo.setWidth 32
     | .plain .blksize => w = s.reg.blksize
     | .plain .blkcnt => w = s.reg.blkcnt
     | .plain (.dmaBase k) => k < s.cfg.maxSeg ∧ w = (s.reg.slot k).addr
     | .plain (.dmaSize k) => k < s.cfg.maxSeg ∧ w = (s.reg.slot k).sectors.setWidth 32
     | .masked .config => w = s.reg.config.setWidth 32
     | .masked .ctrl => w = 0#32
     | .masked .timing => w = s.reg.timing.setWidth 32
     | .masked .clkcfg => w = s.reg.clkDiv.setWidth 32
     | _ => False) →
    exec i s = .next (returnWord w s)

/-- A read of `INT`, `STATE` or `STATUS` returns each flag at its place and 0 at every other, and changes nothing else
(10_state.md R28 to R30, 30_encoding.md R128 to R130). -/
def Obligations.FlagWordsShowTheFlags : Prop :=
  ∀ (s : State) (i : Instr) (r : Reg), i.access = some (.rd r) ∨ i = .regRd r →
    r = .masked .int ∨ r = .plain .state ∨ r = .plain .status →
    ∃ w, exec i s = .next (returnWord w s) ∧ ∀ n,
      w.getLsbD n =
        (match r with
         | .masked .int =>
           (n == 0 && s.reg.cmpEn) || (n == 1 && s.reg.cmpPend) || (n == 4 && s.reg.cardEn) || (n == 5 && s.reg.cardPend)
         | .plain .state =>
           (n == 0 && s.reg.finished) || (n == 1 && s.reg.error) || (decide (4 ≤ n) && s.reg.crcToken.getLsbD (n - 4))
         | _ =>
           (decide (n < 6) && s.reg.errBits.getLsbD n) || (n == 8 && s.reg.rspBufFull) ||
             (n == 9 && s.reg.txBufEmpty) || (n == 10 && s.reg.rxBufFull))

/-- The response window. With a full window `RSPBUF_HI` is returned without a side effect; `RSPBUF_LO` is returned and
consumed, and the window is filled again when six bytes remain in the stream, first byte most significant. Without a
full window both return a value the spec leaves open and consume nothing (10_state.md R24, R25, 42_response_decoder.md
R206, 30_encoding.md R125). The data ports. `DATA_RX` pops a word and clears its flag; without a word it returns a
value the spec leaves open and pops nothing; so does every read of `DATA_TX` (10_state.md R35, R36). -/
def Obligations.WindowAndPortReadsConsume : Prop :=
  (∀ s : State,
     (∀ i, i = .rdRspbufHi ∨ i = .regRd (.plain .rspbufHi) →
       (s.reg.rspBufFull = true → exec i s = .next (returnWord s.reg.rspHi s)) ∧
       (s.reg.rspBufFull = false →
         exec i s = .next (returnWord (Config.freeWord s.draws) (s.setDraws (s.draws + 1))))) ∧
     ∀ i, i = .rdRspbufLo ∨ i = .regRd (.plain .rspbufLo) →
       (s.reg.rspBufFull = false →
         exec i s = .next (returnWord (Config.freeWord s.draws &&& 0xFFFF#32) (s.setDraws (s.draws + 1)))) ∧
       (s.reg.rspBufFull = true → s.bus.rspStream.length < 6 →
         exec i s = .next (returnWord (s.reg.rspLo.setWidth 32) (s.setReg { s.reg with rspBufFull := false }))) ∧
       ∀ w0 w1 w2 w3 w4 w5 rest, s.reg.rspBufFull = true →
         s.bus.rspStream = w0 :: w1 :: w2 :: w3 :: w4 :: w5 :: rest →
         exec i s = .next (returnWord (s.reg.rspLo.setWidth 32)
           ((s.setReg { s.reg with rspHi := w0 ++ w1 ++ w2 ++ w3, rspLo := w4 ++ w5 }).setBus
             { s.bus with rspStream := rest }))) ∧
  (∀ s : State,
     (∀ i, i = .rdDataRx ∨ i = .regRd (.plain .dataRx) →
       (∀ w rest, s.reg.rxBufFull = true → s.bus.rxFifo = w :: rest →
         exec i s = .next (returnWord w ((s.setReg { s.reg with rxBufFull := false }).setBus
           { s.bus with rxFifo := rest }))) ∧
       (s.reg.rxBufFull = false →
         exec i s = .next (returnWord (Config.freeWord s.draws) (s.setDraws (s.draws + 1))))) ∧
     ∀ i, i = .rdDataTx ∨ i = .regRd (.plain .dataTx) →
       exec i s = .next (returnWord (Config.freeWord s.draws) (s.setDraws (s.draws + 1))))

/-! ### Register writes (family 40) -/

/-- A write of a plain read-write register while the engine is idle replaces its writable bits and nothing else
(10_state.md R22, R23, R33, R34; 40_register_access.md R163). -/
def Obligations.PlainWritesReplaceTheRegister : Prop :=
  ∀ (s : State) (w : Word), s.cfg.legal = true → s.bus.phase = .idle →
    (∀ i, i = .wrCmdbuf w ∨ i = .regWr .cmdbuf w → exec i s = .next (s.setReg { s.reg with cmdbuf := w })) ∧
    (∀ i, i = .wrCmdargLo w ∨ i = .regWr .cmdargLo w →
      exec i s = .next (s.setReg { s.reg with cmdargLo := w.extractLsb' 0 8 })) ∧
    (∀ i, i = .wrBlksize w ∨ i = .regWr .blksize w → ∃ v, exec i s = .next (s.setReg { s.reg with blksize := v }) ∧
      ∀ n, v.getLsbD n = (decide (n < s.cfg.blksizeW) && w.getLsbD n)) ∧
    ∀ i, i = .wrBlkcnt w ∨ i = .regWr .blkcnt w → ∃ v, exec i s = .next (s.setReg { s.reg with blkcnt := v }) ∧
      ∀ n, v.getLsbD n = (decide (n < s.cfg.blkcntW) && w.getLsbD n)

/-- The two registers of each descriptor slot: while the engine is idle a write of a slot below `MAX_SEG` replaces the
low `ADDR_W` bits of its address or its 16-bit sector count, and leaves every other slot; at or above `MAX_SEG` there is
no register and the access is refused (10_state.md R37 to R39, 30_encoding.md R134). -/
def Obligations.SlotWritesReplaceOneSlot : Prop :=
  ∀ (s : State) (k : Nat) (w : Word) (i j : Instr), s.cfg.legal = true → s.bus.phase = .idle →
    (i.access = some (.wr (.plain (.dmaBase k)) w) ∨ i = .regWr (.dmaBase k) w) →
    (j.access = some (.wr (.plain (.dmaSize k)) w) ∨ j = .regWr (.dmaSize k) w) →
    let only := fun (g : Slot) (r : RegBlock) =>
      r.slot k = g ∧ (∀ n, n ≠ k → r.slot n = s.reg.slot n) ∧ r = { s.reg with slots := r.slots }
    (k < s.cfg.maxSeg →
      (∃ v r, exec i s = .next (s.setReg r) ∧ only { s.reg.slot k with addr := v } r ∧
        ∀ n, v.getLsbD n = (decide (n < s.cfg.addrW) && w.getLsbD n)) ∧
      ∃ r, exec j s = .next (s.setReg r) ∧ only { s.reg.slot k with sectors := w.extractLsb' 0 16 } r) ∧
    (s.cfg.maxSeg ≤ k → exec i s = .refused .unmappedOffset ∧ exec j s = .refused .unmappedOffset ∧
      exec (.regRd (.plain (.dmaBase k))) s = .refused .unmappedOffset ∧
      exec (.regRd (.plain (.dmaSize k))) s = .refused .unmappedOffset)

/-- A write of a read-only register is ignored, at any time (10_state.md R24, R25, R29, R30, R36). A write of
`DATA_TX` pushes one word and clears `TX_BUF_EMPTY`; while the flag is 0 it is refused (10_state.md R35). -/
def Obligations.ReadOnlyAndPortWrites : Prop :=
  (∀ (s : State) (w : Word) (i : Instr),
     i = .wrRspbufHi w ∨ i = .wrRspbufLo w ∨ i = .wrState w ∨ i = .wrStatus w ∨ i = .wrDataRx w ∨
       i = .regWr .rspbufHi w ∨ i = .regWr .rspbufLo w ∨ i = .regWr .state w ∨ i = .regWr .status w ∨
       i = .regWr .dataRx w →
     exec i s = .next s) ∧
  (∀ (s : State) (w : Word) (i : Instr), i = .wrDataTx w ∨ i = .regWr .dataTx w →
     (s.reg.txBufEmpty = true →
       exec i s = .next ((s.setReg { s.reg with txBufEmpty := false }).setBus
         { s.bus with txFifo := s.bus.txFifo ++ [w] })) ∧
     (s.reg.txBufEmpty = false → exec i s = .refused .txNotEmpty))

/-- A masked write of `CONFIG`, `TIMING` or `CLKCFG` while the engine is idle changes exactly the writable bits whose
mask bit is 1, to their value bits; with a zero mask nothing (40_register_access.md R164, 30_encoding.md R126, R131,
R132). -/
def Obligations.MaskedWritesNeedTheirMask : Prop :=
  ∀ (s : State) (w : Word), s.cfg.legal = true → s.bus.phase = .idle →
    (∀ i, i = .wrConfig w ∨ i = .regWrMasked .config w → ∃ v, exec i s = .next (s.setReg { s.reg with config := v }) ∧
      ∀ n < 16, v.getLsbD n = if w.getLsbD (16 + n) && decide (n < 10) then w.getLsbD n else s.reg.config.getLsbD n) ∧
    (∀ i, i = .wrTiming w ∨ i = .regWrMasked .timing w → ∃ v, exec i s = .next (s.setReg { s.reg with timing := v }) ∧
      ∀ n < 16, v.getLsbD n =
        if w.getLsbD (16 + n) && decide (n < 15) && decide (n % 3 < s.cfg.dlyW) then w.getLsbD n
        else s.reg.timing.getLsbD n) ∧
    (∀ i, i = .wrClkcfg w ∨ i = .regWrMasked .clkcfg w → ∃ v, exec i s = .next (s.setReg { s.reg with clkDiv := v }) ∧
      ∀ n < 12, v.getLsbD n = if w.getLsbD (16 + n) then w.getLsbD n else s.reg.clkDiv.getLsbD n)

/-- A masked write of `INT` sets the two enables by their mask bits, clears the pending bits whose clear bit is written 1
under its mask, and is legal at any time (10_state.md R28, 40_register_access.md R164, R167, 70_reset_and_hazards.md
R510). -/
def Obligations.IntWritesEnableAndClear : Prop :=
  ∀ (s : State) (w : Word) (i : Instr), i = .wrInt w ∨ i = .regWrMasked .int w →
    exec i s = .next (s.setReg { s.reg with
      cmpEn := if w.getLsbD 16 then w.getLsbD 0 else s.reg.cmpEn
      cmpPend := s.reg.cmpPend && !(w.getLsbD 18 && w.getLsbD 2)
      cardEn := if w.getLsbD 20 then w.getLsbD 4 else s.reg.cardEn
      cardPend := s.reg.cardPend && !(w.getLsbD 22 && w.getLsbD 6) })

/-- A masked write of `CTRL` performs the actions its mask and value select, the soft reset before the trigger, and none
otherwise (10_state.md R27, 40_register_access.md R167). -/
def Obligations.CtrlWritesAct : Prop :=
  ∀ (s : State) (w : Word) (i : Instr), i = .wrCtrl w ∨ i = .regWrMasked .ctrl w →
    ((w.getLsbD 16 && w.getLsbD 0) = false → (w.getLsbD 17 && w.getLsbD 1) = false → exec i s = .next s) ∧
    ((w.getLsbD 16 && w.getLsbD 0) = false → (w.getLsbD 17 && w.getLsbD 1) = true → exec i s = exec .bSwReset s) ∧
    ((w.getLsbD 16 && w.getLsbD 0) = true → (w.getLsbD 17 && w.getLsbD 1) = false → exec i s = exec .bTrigger s) ∧
    ((w.getLsbD 16 && w.getLsbD 0) = true → (w.getLsbD 17 && w.getLsbD 1) = true →
      exec i s = andThen (exec .bSwReset s) (exec .bTrigger))

/-- From the trigger to the end of the transaction a write of a command, configuration, block, timing, clock or slot
register is refused, and so is a second trigger (70_reset_and_hazards.md R510, 49_host_and_bus_interfaces.md R420). That a
masked write with an empty mask is refused then too is the model's choice (entry 45). -/
def Obligations.BusyEngineRefusesWrites : Prop :=
  ∀ (s : State) (w : Word), s.bus.phase = .busy →
    (∀ r : PlainReg, r = .cmdbuf ∨ r = .cmdargLo ∨ r = .blksize ∨ r = .blkcnt ∨
        (∃ k, k < s.cfg.maxSeg ∧ (r = .dmaBase k ∨ r = .dmaSize k)) →
      exec (.regWr r w) s = .refused .busBusy ∧
      ∀ i : Instr, i.access = some (.wr (.plain r) w) → exec i s = .refused .busBusy) ∧
    (∀ m : MaskedReg, m = .config ∨ m = .timing ∨ m = .clkcfg →
      exec (.regWrMasked m w) s = .refused .busBusy ∧
      ∀ i : Instr, i.access = some (.wr (.masked m) w) → exec i s = .refused .busBusy) ∧
    exec .bTrigger s = .refused .busBusy ∧ exec (.regWrMasked .ctrl 0x00010001#32) s = .refused .busBusy

/-- `FIELD_GET(w, lo, n)` returns the field as an unsigned number; a field that is empty or leaves the word is refused
(40_register_access.md R160). `FIELD_SET(w, lo, n, v)` replaces the field by the low `n` bits of `v` and keeps every
other bit (40_register_access.md R161). -/
def Obligations.FieldsAreReadAndReplaced : Prop :=
  (∀ (s : State) (w : Word) (lo n : Byte),
     (1 ≤ n.toNat ∧ lo.toNat + n.toNat ≤ 32 → ∃ v : Word,
       exec (.fieldGet w lo n) s = .next (returnWord v s) ∧ v.toNat = w.toNat / 2 ^ lo.toNat % 2 ^ n.toNat) ∧
     (¬ (1 ≤ n.toNat ∧ lo.toNat + n.toNat ≤ 32) → exec (.fieldGet w lo n) s = .refused .fieldLeavesWord)) ∧
  (∀ (s : State) (w v : Word) (lo n : Byte),
     (1 ≤ n.toNat ∧ lo.toNat + n.toNat ≤ 32 → ∃ x : Word, exec (.fieldSet w lo n v) s = .next (returnWord x s) ∧
       ∀ j < 32, x.getLsbD j =
         if lo.toNat ≤ j ∧ j < lo.toNat + n.toNat then v.getLsbD (j - lo.toNat) else w.getLsbD j) ∧
     (¬ (1 ≤ n.toNat ∧ lo.toNat + n.toNat ≤ 32) → exec (.fieldSet w lo n v) s = .refused .fieldLeavesWord))

/-! ### Commands and responses (families 41, 42) -/

/-- `CMD_ENCODE` while the engine is idle: the command word, the low argument byte, the completion enable, and bits 3:0 of
`CONFIG` by the table of R189; nothing else changes. An opcode above 63 is refused (41_command_encoder.md R180 to
R189). -/
def Obligations.CmdEncodeProgramsTheCommand : Prop :=
  ∀ (s : State) (opcode : Byte) (arg : Word) (rsp : RspShape) (hasData : Bool),
    (opcode.toNat ≤ 63 → s.bus.phase = .idle →
      exec (.cmdEncode opcode arg rsp hasData) s = .next (s.setReg { s.reg with
        cmdbuf := 0x40000000#32 ||| (opcode.setWidth 32 <<< 24) ||| (arg >>> 8)
        cmdargLo := arg.extractLsb' 0 8
        cmpEn := s.host.useInt && rsp != .r136
        config := (s.reg.config &&& 0xFFF0#16) |||
          (match rsp, hasData with
           | .none, false => 0x0#16
           | .none, true => 0x8#16
           | .r48, false => 0x5#16
           | .r48, true => 0xD#16
           | .r48b, false => 0x5#16
           | .r48b, true => 0xD#16
           | .r136, false => 0x3#16
           | .r136, true => 0xB#16) })) ∧
    (63 < opcode.toNat → exec (.cmdEncode opcode arg rsp hasData) s = .refused .opcodeRange)

/-- What `CMD_ENCODE` programs is what the engine sends: after it, a trigger sends the card the very opcode and argument
that were encoded (41_command_encoder.md R181, R182, 49_host_and_bus_interfaces.md R420). -/
def Obligations.EncodedCommandReachesTheCard : Prop :=
  ∀ (s t u : State) (opcode : Byte) (arg : Word) (rsp : RspShape) (hasData : Bool),
    exec (.cmdEncode opcode arg rsp hasData) s = .next t → exec .bTrigger t = .next u →
    u.out = .cmd (opcode.extractLsb' 0 6) arg :: s.out ∧ opcode.toNat ≤ 63

/-- A 48-bit response in a full window: the payload and the last byte go to the first two response words, the window is
consumed as a read of `RSPBUF_LO` does, and nothing else of the Request changes; `RSP_NONE` does nothing at all
(42_response_decoder.md R201, R204). That `RSP_GET48` runs so on a Command of any response shape, and `RSP_NONE` on one
of any shape and on one that does not exist, is the model's reading (entry 20): R201 has a Command of shape `R48` or
`R48B` as its operand, R204 one of shape `NONE`. -/
def Obligations.RspGet48Repacks : Prop :=
  ∀ (s : State) (c : CmdSel),
    exec (.rspNone c) s = .next s ∧
    ∀ (k : Command) (w0 w1 w2 w3 w4 w5 : Byte), currentCmd s c = some k → s.reg.rspBufFull = true →
      s.reg.rspHi = w0 ++ w1 ++ w2 ++ w3 → s.reg.rspLo = w4 ++ w5 →
      exec (.rspGet48 c) s = .next (setCurrentCmd c
        { k with resp0 := some (w1 ++ w2 ++ w3 ++ w4), resp1 := some (w5 ++ 0#24) } (consumeWindow (returnCode 0 s)))

/-- A 136-bit response. `RSP_GET136` on a Command that exists takes its first pass at once when the window is full, and
stands in its wait when it is empty and the error state clear (42_response_decoder.md R202). When the eighteen bytes of
the response stand in the window and the stream, three turns of the agent write the four response words of the selected
Command, most significant first, and leave the window empty; of the Request nothing else changes, of the registers only
the window, and of the rest of the machine only the stream and the result of the wait (42_response_decoder.md R202,
R206). That the second wait takes its deadline in the turn that reads the window before it is the model's choice (entry
15), and that `RSP_GET136` runs so on a Command of any response shape, where R202 has one of shape `R136` as its operand,
is the model's reading (entry 20). -/
def Obligations.RspGet136Reassembles : Prop :=
  ∀ (s : State) (c : CmdSel) (r : Request) (k : Command), s.actor ≠ .b → s.host.mrq = some r → selectCmd r c = some k →
    (s.reg.rspBufFull = true → exec (.rspGet136 c) s = .next (pushFrames
      [.rsp136 c [(s.reg.rspHi, s.reg.rspLo.setWidth 32)] (s.now + s.cfg.waitTimeout)] (consumeWindow (returnCode 0 s)))) ∧
    (s.reg.rspBufFull = false → s.reg.error = false → 0 < s.cfg.waitTimeout →
      exec (.rspGet136 c) s = .next (pushFrames [.rsp136 c [] (s.now + s.cfg.waitTimeout)] s)) ∧
    ∀ b0 b1 b2 b3 b4 b5 b6 b7 b8 b9 b10 b11 b12 b13 b14 b15 b16 b17 : Byte,
      s.reg.rspBufFull = true → s.reg.rspHi = b0 ++ b1 ++ b2 ++ b3 → s.reg.rspLo = b4 ++ b5 →
      s.bus.rspStream = [b6, b7, b8, b9, b10, b11, b12, b13, b14, b15, b16, b17] →
      let d := { k with resp0 := some (b1 ++ b2 ++ b3 ++ b4), resp1 := some (b5 ++ b6 ++ b7 ++ b8)
                        resp2 := some (b9 ++ b10 ++ b11 ++ b12), resp3 := some (b13 ++ b14 ++ b15 ++ b16) }
      ∃ s1 s2, exec (.rspGet136 c) s = .next s1 ∧ resumeActor exec s1 = .next s2 ∧
        resumeActor exec s2 = .next ((((returnCode 0 s).setReg
          { s.reg with rspHi := b12 ++ b13 ++ b14 ++ b15, rspLo := b16 ++ b17, rspBufFull := false }).setBus
          { s.bus with rspStream := [] }).setHost
          { s.host with mrq := some (match c with
            | .primary => { r with cmd := d }
            | .stop => { r with stop := some d }) })

/-- A decoder whose wait fails writes no response word and reads no window: only the wait's result is recorded; while the
wait goes on, only the wait stands on the stack (42_response_decoder.md R203). -/
def Obligations.DecodersAbortSilently : Prop :=
  ∀ (s : State) (c : CmdSel) (deadline : Nat) (pairs : List (Word × Word)) (f : Frame),
    f = .rsp48 c deadline ∨ f = .rsp136 c pairs deadline → s.reg.rspBufFull = false →
    (s.reg.error = true ∨ deadline ≤ s.now →
      runFrame exec f s = .next (returnCode (-1) (s.setHost { s.host with waitFailed := true }))) ∧
    (s.reg.error = false → s.now < deadline → runFrame exec f s = .next (pushFrames [f] s)) ∧
    ((currentCmd s c).isSome = true → s.reg.error = true →
      exec (.rspGet48 c) s = .next (returnCode (-1) (s.setHost { s.host with waitFailed := true })) ∧
      exec (.rspGet136 c) s = .next (returnCode (-1) (s.setHost { s.host with waitFailed := true })))

/-! ### The data path (families 43, 44) -/

/-- `DATA_CFG` programs block size and count minus one, the length mode and the direction bits, and goes on as its branch;
the PIO branch sets `PIO_EN` and `RX4B_EN` and returns 0 (43_data_path_configurator.md R220 to R225, R230). -/
def Obligations.DataCfgProgramsTheTransfer : Prop :=
  ∀ (s : State) (d : DataDesc), s.cfg.legal = true → currentData s = some d → s.bus.phase = .idle →
    exec .dataCfgPio s = .next (returnCode 0 (s.setReg { s.reg with config := s.reg.config ||| 0x0300#16 })) ∧
    (1 ≤ d.blksz ∧ d.blksz ≤ 2 ^ s.cfg.blksizeW ∧ 1 ≤ d.blocks ∧ d.blocks ≤ 2 ^ s.cfg.blkcntW →
      let t := s.setReg { s.reg with
        blksize := BitVec.ofNat 32 (d.blksz - 1)
        blkcnt := BitVec.ofNat 32 (d.blocks - 1)
        config := (s.reg.config &&& 0xFF0F#16) ||| (if s.cfg.lenModeNoAutostop then 0x10#16 else 0#16) |||
          (match d.dir with
           | .rd => 0xC0#16
           | .wr => 0x20#16) }
      (s.host.path = .pio →
        exec .dataCfg s = .next (returnCode 0 (t.setReg { t.reg with config := t.reg.config ||| 0x0300#16 }))) ∧
      (s.host.path = .dma → exec .dataCfg s = exec .dataCfgDma t))

/-- A mapping the table can hold: `DATA_CFG_DMA` returns 0, slot `k` holds mapped segment `k`'s address and sector count
and every later slot keeps its value, `PIO_EN` is cleared, the completion interrupt is asked for exactly when the
transfer is above the threshold and the Host does not use interrupts, and no other register and no byte of the buffer
space changes (43_data_path_configurator.md R226, R228, R229, R231). The hand-over at a successful mapping: for a write
the mapped bytes hold what the buffers hold, in bus order, and no other byte of the DMA address space changes; for a
read none does (20_memory.md R87, R90); that the bytes pass at this moment is the model's choice (entry 12). The mapped
addresses are distinct. From here on the engine's bytes count as arrived from 0 (the model's own count, entry 14). A
mapping with a segment that no slot can hold, or that is not as long as the transfer, is
refused (20_memory.md R87, 43_data_path_configurator.md R228, 70_reset_and_hazards.md R513; entry 31). -/
def Obligations.DataCfgDmaBuildsTheTable : Prop :=
  (∀ (s : State) (d : DataDesc) (ms : List Mapped), s.cfg.legal = true → currentData s = some d →
     s.bus.phase = .idle → dmaMap s d.sg d.dir = ms → ms ≠ [] → ms.length ≤ s.cfg.maxSeg →
     (∀ m ∈ ms, 0 < m.len ∧ m.len % s.cfg.sectorSize = 0 ∧ m.len / s.cfg.sectorSize ≤ 65535 ∧
       m.addr.toNat + m.len ≤ 2 ^ s.cfg.addrW) →
     mappedLength ms = d.size →
     let asks := decide (s.cfg.dmaIntThreshold < d.size) && !s.host.useInt
     ∃ t, exec .dataCfgDma s = .next (returnCode 0 t) ∧
       (∀ (k : Nat) (h : k < ms.length),
         (t.reg.slot k).addr = ms[k].addr ∧ (t.reg.slot k).sectors.toNat = ms[k].len / s.cfg.sectorSize) ∧
       (∀ k, ms.length ≤ k → t.reg.slot k = s.reg.slot k) ∧
       t.reg = { s.reg with slots := t.reg.slots, config := s.reg.config &&& 0xFEFF#16
                            cmpEn := s.reg.cmpEn || asks } ∧
       t.host = { s.host with dmaMapped := some ms, dmaIntReq := s.host.dmaIntReq || asks } ∧
       t.bus = { s.bus with arrived := 0 } ∧ t.bufMem = s.bufMem ∧ t.out = s.out) ∧
  (∀ (s t : State) (d : DataDesc), s.memoryCanonical → currentData s = some d → exec .dataCfgDma s = .next t →
     t.host.dmaMapped = some (dmaMap s d.sg d.dir) → s.host.dmaMapped = none →
     (d.dir = .rd → t.dmaMem = s.dmaMem) ∧
     (d.dir = .wr →
       (∀ a, a ∉ mappedKeys (dmaMap s d.sg d.dir) → t.dmaMem.read a = s.dmaMem.read a) ∧
       ((mappedKeys (dmaMap s d.sg d.dir)).Nodup →
         (mappedKeys (dmaMap s d.sg d.dir)).length = (bufKeys d.sg).length →
         (mappedKeys (dmaMap s d.sg d.dir)).map t.dmaMem.read = (bufKeys d.sg).map s.bufMem.read))) ∧
  (∀ (s : State) (d : DataDesc) (ms : List Mapped), currentData s = some d → dmaMap s d.sg d.dir = ms → ms ≠ [] →
     ms.length ≤ s.cfg.maxSeg →
     (mappedLength ms ≠ d.size ∨ ∃ m ∈ ms, m.len = 0 ∨ m.len % s.cfg.sectorSize ≠ 0 ∨
       65535 < m.len / s.cfg.sectorSize ∨ 2 ^ s.cfg.addrW < m.addr.toNat + m.len) →
     exec .dataCfgDma s = .refused .mappingNotExpressible)

/-- A mapping of no segment, or of more than the table holds: the Data Descriptor gets `ERR_DMA_MAP`, -1 is returned,
and no register and no other field changes (43_data_path_configurator.md R227). Of a write no byte of memory changes,
which for the DMA address space is the model's choice (entry 12); the buffers of a read hold values the spec leaves
open, and every other byte of the buffers reads as before (20_memory.md R90, 93_implementation_defined.md U10). That
they are drawn at this moment is the model's choice (entry 14). -/
def Obligations.OversizedMappingFails : Prop :=
  ∀ (s : State) (d : DataDesc), currentData s = some d →
    (dmaMap s d.sg d.dir = [] ∨ s.cfg.maxSeg < (dmaMap s d.sg d.dir).length) →
    (d.dir = .wr → exec .dataCfgDma s = .next (returnCode (-1) (setCurrentData { d with error := .dmaMap } s))) ∧
    (d.dir = .rd →
      ∃ m, exec .dataCfgDma s = .next (returnCode (-1) (setCurrentData { d with error := .dmaMap }
          ((s.setBufMem m).setDraws (s.draws + (bufKeys d.sg).length)))) ∧
        (s.memoryCanonical → m.wf = true ∧ (∀ a, a ∉ bufKeys d.sg → m.read a = s.bufMem.read a) ∧
          ((bufKeys d.sg).Nodup →
            (bufKeys d.sg).map m.read =
              (List.range (bufKeys d.sg).length).map fun j => Config.freeByte (s.draws + j))))

/-- A PIO word: with room, the four buffer bytes at `off` are pushed, the first in bits 7:0; with a word waiting, it is
popped and its four bytes stored from `off` on, the lowest first, and every other byte of both memories reads as before
(44_pio_engine.md R251, R252, 20_memory.md R82). R251 and R252 have an `off` that is a multiple of 4; that the
operations run so on every other `off` is the model's choice (entry 30). -/
def Obligations.PioWordsMove : Prop :=
  ∀ (s : State) (buf : Word) (off : Nat),
    (s.reg.txBufEmpty = true →
      exec (.pioWrWord buf off) s = .next (((returnCode 0 s).setReg { s.reg with txBufEmpty := false }).setBus
        { s.bus with txFifo := s.bus.txFifo ++ [s.bufMem.read (bufKey buf (off + 3)) ++
          s.bufMem.read (bufKey buf (off + 2)) ++ s.bufMem.read (bufKey buf (off + 1)) ++
          s.bufMem.read (bufKey buf off)] })) ∧
    ∀ (b0 b1 b2 b3 : Byte) (rest : List Word), s.memoryCanonical → s.reg.rxBufFull = true →
      s.bus.rxFifo = (b3 ++ b2 ++ b1 ++ b0) :: rest →
      ∃ m, exec (.pioRdWord buf off) s = .next ((((returnCode 0 s).setReg { s.reg with rxBufFull := false }).setBus
          { s.bus with rxFifo := rest }).setBufMem m) ∧
        m.read (bufKey buf off) = b0 ∧ m.read (bufKey buf (off + 1)) = b1 ∧ m.read (bufKey buf (off + 2)) = b2 ∧
        m.read (bufKey buf (off + 3)) = b3 ∧
        ∀ a, a ≠ bufKey buf off → a ≠ bufKey buf (off + 1) → a ≠ bufKey buf (off + 2) → a ≠ bufKey buf (off + 3) →
          m.read a = s.bufMem.read a

/-- `PIO_XFER` starts the first word of the first segment that has one, passes over an empty segment, and goes on word
by word, segment by segment; in the error state its first word fails and nothing moves. A failed word ends its segment,
or the transfer, by `PIO_ABORT_SCOPE`; of a read, the bytes that the abort leaves untransferred then hold values the
spec leaves open, and every other byte of the buffers reads as before (44_pio_engine.md R250, R253, R255,
93_implementation_defined.md U10; entry 33). Where a length is no multiple of 4 the last word is moved whole (entry
30). -/
def Obligations.PioTransferPumps : Prop :=
  ∀ (s : State) (d : DataDesc) (g : Segment) (gs : List Segment) (off : Nat),
    let word := fun (buf : Word) (o : Nat) => match d.dir with
      | .wr => Instr.pioWrWord buf o
      | .rd => Instr.pioRdWord buf o
    let start := fun (o : Nat) (u : State) => exec (word g.buf o) (pushFrames [.pioNext d.dir o (g :: gs)] u)
    let left := (List.range (g.len - off)).map (fun o => bufKey g.buf (off + o)) ++
      (if s.cfg.pioAbortScope = .segment then [] else bufKeys gs)
    (currentData s = some d → d.sg = [] → exec .pioXfer s = .next s) ∧
    (currentData s = some d → d.sg = g :: gs → g.len = 0 → exec .pioXfer s = pumpFrom d.dir 0 gs s) ∧
    (currentData s = some d → d.sg = g :: gs → 0 < g.len → ∃ t, exec .pioXfer s = .next t ∧ start 0 s = .next t) ∧
    (currentData s = some d → s.reg.error = true → s.reg.txBufEmpty = false → s.reg.rxBufFull = false →
      ∃ t, exec .pioXfer s = .next t ∧ t.bufMem = s.bufMem ∧ t.bus = s.bus ∧ t.reg = s.reg) ∧
    ((actorCtx s).ret = 0 → off + 4 < g.len → runFrame exec (.pioNext d.dir off (g :: gs)) s = start (off + 4) s) ∧
    ((actorCtx s).ret = 0 → g.len ≤ off + 4 →
      runFrame exec (.pioNext d.dir off (g :: gs)) s = pumpFrom d.dir 0 gs s) ∧
    ((actorCtx s).ret ≠ 0 → ∃ u : State,
      (s.cfg.pioAbortScope = .segment → runFrame exec (.pioNext d.dir off (g :: gs)) s = pumpFrom d.dir 0 gs u) ∧
      (s.cfg.pioAbortScope = .transfer → runFrame exec (.pioNext d.dir off (g :: gs)) s = .next u) ∧
      (d.dir = .wr → u = s) ∧
      (d.dir = .rd → ∃ m, u = (s.setBufMem m).setDraws (s.draws + left.length) ∧ (s.memoryCanonical →
        (∀ k, k ∉ left → m.read k = s.bufMem.read k) ∧
        (left.Nodup → left.map m.read = (List.range left.length).map fun j => Config.freeByte (s.draws + j)))))

/-! ### The transaction controller (family 45) -/

/-- `SUBMIT` of a well-formed Request: with the mutex free it takes it, records the Request, clears `wait_failed`, goes to
`Preparing` and has `CMD_ENCODE` next; with the mutex held it stands blocked and touches nothing; an ill-formed Request is
refused (45_transaction_controller.md R271, R284). R271 names `error`, `cmd.retries` and `bytes_xfered` among the
completion fields; that response words that are not fresh, and `retries` of the stop Command, are refused too is the
model's reading (10_state.md R42; entry 35). `cmpTaken` is the model's own record of the completion interrupt (entry
42). -/
def Obligations.SubmitTakesTheMutex : Prop :=
  ∀ (s : State) (r : Request),
    (s.host.attached = true → s.host.clockSet = true → s.host.timingSet = true →
      requestWellFormed s.cfg s.host.path r = true →
      (s.host.lock = .free → exec (.submit r) s = .next (pushFrames
        [.call (.cmdEncode r.cmd.opcode r.cmd.arg r.cmd.rsp r.data.isSome), .afterEncode, .submitReturn]
        (s.setHost { s.host with lock := .held, mrq := some r, tc := .preparing, waitFailed := false, cmpTaken := false }))) ∧
      (s.host.lock = .held → exec (.submit r) s = .next (pushFrames [.blocked (.submit r)] s))) ∧
    (s.host.attached = false ∨ s.host.clockSet = false ∨ s.host.timingSet = false ∨ 63 < r.cmd.opcode.toNat ∨
        (r.cmd.rsp = .r136 ∧ r.data.isSome = true) ∨ (r.stop.isSome = true ∧ r.data = none) ∨
        (∃ x, (x = r.cmd ∨ r.stop = some x) ∧ (63 < x.opcode.toNat ∨ x.error ≠ .none ∨ x.retries ≠ 0 ∨ x.resp0 ≠ none ∨
          x.resp1 ≠ none ∨ x.resp2 ≠ none ∨ x.resp3 ≠ none)) ∨
        (∃ d, r.data = some d ∧ (d.blksz = 0 ∨ 2 ^ s.cfg.blksizeW < d.blksz ∨ d.blocks = 0 ∨
          2 ^ s.cfg.blkcntW < d.blocks ∨ segmentsLength d.sg ≠ d.blksz * d.blocks ∨ d.error ≠ .none ∨ d.bytesXfered ≠ 0 ∨
          (s.host.path = .pio ∧ ∃ g ∈ d.sg, g.len % 4 ≠ 0))) →
      exec (.submit r) s = .refused .illFormedRequest)

/-- A cancel request of a submitter blocked on the mutex: `SUBMIT` returns `SUBMIT_ABORTED` and nothing else changes, no
register, no field of the Host (45_transaction_controller.md R286). The rest is the model's reading of that rule (entry
16): a request of a thread that has nothing to do stays pending, one inside any other operation has no effect, and a
pending request meets the next `SUBMIT` of a well-formed Request: with the mutex held `SUBMIT` is aborted, and with the
mutex free either it is aborted or it goes on as if there were no request, by no law. -/
def Obligations.CancelledSubmitTouchesNothing : Prop :=
  ∀ (s : State) (tid : Nat) (es : List Event),
    (s.sched = .signal tid :: es →
      (∀ r rest, (getCtx s (.p tid)).stack = .blocked (.submit r) :: rest →
        step s = .next ((setCtx (s.setSched es) (.p tid) { getCtx s (.p tid) with stack := rest }).emit
          (.submitAborted tid))) ∧
      ((getCtx s (.p tid)).stack = [] → step s = .next ((s.setSched es).setCancels
        (if tid ∈ s.cancels then s.cancels else tid :: s.cancels))) ∧
      ((getCtx s (.p tid)).stack ≠ [] → (∀ r rest, (getCtx s (.p tid)).stack ≠ .blocked (.submit r) :: rest) →
        step s = .next (s.setSched es))) ∧
    ∀ f bytes rest r, s.sched = .run (.p tid) f bytes :: es → fetchInstr s.cfg f bytes = .ok (.submit r, rest) →
      (getCtx s (.p tid)).stack = [] → tid ∈ s.cancels → s.host.attached = true → s.host.clockSet = true →
      s.host.timingSet = true → requestWellFormed s.cfg s.host.path r = true →
      let t := (((s.setSched es).setActor (.p tid)).setCancels (s.cancels.erase tid)).setDraws (s.draws + 1)
      (s.host.lock = .held → step s = .next (t.emit (.submitAborted tid))) ∧
      (s.host.lock = .free → step s = .next (t.emit (.submitAborted tid)) ∨ step s = exec (.submit r) t)

/-- The paths of `SUBMIT`: on its own request, prepared and with the engine ready, each path triggers, enters its
waiting state, and has its own operations next; the PIO path first clears the completion enable
(45_transaction_controller.md R272 to R277, R279; the operands are checked as entry 20 says). `TRIGGER(w)` from
`Preparing` is one step: the trigger, and the machine in the waiting state; in any other state it is refused
(45_transaction_controller.md R279; the refusal is the model's, entry 20). -/
def Obligations.PathsTriggerAndWait : Prop :=
  (∀ (s : State) (r : Request) (k : BitVec 7), s.engineReady → s.host.tc = .preparing → s.host.mrq = some r →
     dispatchKey s.cfg s.host.path s.host.useInt r = k → reservedMode s.reg.config = false →
     (∀ d, r.data = some d → d.error ≠ .dmaMap) →
     let go := fun (v : TcState) (u : State) => (triggered u).setHost { s.host with tc := v }
     (reqRow k = some .r136 → exec (.submitR136 k) s = .next (pushFrames
       [.call (.rspGet136 .primary), .call .waitFinish, .enterFinishing, .call .checkError, .tailR136]
       (go .waitingPoll s))) ∧
     (reqRow k = some .dataPio → exec (.submitDataPio k) s = .next (pushFrames
       [.call .pioXfer, .call .waitFinish, .call .finish]
       (go .waitingPoll (s.setReg { s.reg with cmpEn := false })))) ∧
     (reqRow k = some .dataDmaIrqCmd → exec (.submitDataDmaIrqCmd k) s = .next (pushFrames [] (go .waitingInterrupt s))) ∧
     (reqRow k = some .dataDmaIrqThr → exec (.submitDataDmaIrqThr k) s = .next (pushFrames [] (go .waitingInterrupt s))) ∧
     (reqRow k = some .dataDmaPoll → exec (.submitDataDmaPoll k) s = .next (pushFrames
       [.call .waitFinish, .call .finish] (go .waitingPoll s))) ∧
     (reqRow k = some .nodataIrq → exec (.submitNodataIrq k) s = .next (pushFrames [] (go .waitingInterrupt s))) ∧
     (reqRow k = some .nodataPoll → exec (.submitNodataPoll k) s = .next (pushFrames
       [.call .waitFinish, .call .finish] (go .waitingPoll s)))) ∧
  (∀ (s : State) (v : WaitSel),
     (s.host.tc = .preparing → s.engineReady → reservedMode s.reg.config = false →
       exec (.trigger v) s = .next ((triggered s).setHost { s.host with tc := match v with
         | .poll => .waitingPoll
         | .interrupt => .waitingInterrupt })) ∧
     (s.host.tc ≠ .preparing → exec (.trigger v) s = .refused .notPreparing))

/-- Behind `CMD_ENCODE`, `SUBMIT` configures the data path where there is one to configure, and goes on with the path of
its branch: the response shape, the data, the data path, the use-interrupt flag and the transfer's own interrupt choose
it; after a failed mapping it ends without a trigger, by way of `Finishing` (45_transaction_controller.md R271, R278,
R287, 70_reset_and_hazards.md R512). `SUBMIT` returns `SUBMITTED` to its thread (R271), the 136-bit path goes to
`Finishing` behind its waits (R272), and an operation blocked on the mutex runs once the mutex is free and stays blocked
while it is held (10_state.md R50; entry 16). -/
def Obligations.SubmitBranches : Prop :=
  (∀ (s : State) (r : Request), s.host.mrq = some r →
     let k := dispatchKey s.cfg s.host.path s.host.useInt r
     let path : Instr :=
       if r.cmd.rsp = .r136 then .submitR136 k
       else if r.data.isSome then
         (if s.host.path = .pio then .submitDataPio k
          else if s.host.useInt then .submitDataDmaIrqCmd k
          else if s.host.dmaIntReq then .submitDataDmaIrqThr k
          else .submitDataDmaPoll k)
       else if s.host.useInt then .submitNodataIrq k
       else .submitNodataPoll k
     (r.cmd.rsp ≠ .r136 → r.data.isSome = true →
       runFrame exec .afterEncode s = .next (pushFrames [.call .dataCfg, .afterCfg] s)) ∧
     (r.cmd.rsp = .r136 ∨ r.data = none → runFrame exec .afterEncode s = .next (pushFrames [.call path] s)) ∧
     ((actorCtx s).ret = 0 → runFrame exec .afterCfg s = .next (pushFrames [.call path] s)) ∧
     ((actorCtx s).ret ≠ 0 → runFrame exec .afterCfg s = .next (pushFrames [.call .finishMapfail] s)) ∧
     (∀ d, r.data = some d → d.error = .dmaMap → s.host.tc = .preparing →
       exec .finishMapfail s = .next (pushFrames [.tailR136] (s.setHost { s.host with tc := .finishing }))) ∧
     runFrame exec .enterFinishing s = .next (s.setHost { s.host with tc := .finishing })) ∧
  (∀ (s : State) (tid : Nat), s.actor = .p tid → runFrame exec .submitReturn s = .next (s.emit (.submitted tid))) ∧
  ∀ (s : State) (i : Instr), (∃ r, i = .submit r) ∨ (∃ x, i = .setClock x) ∨ (∃ m d, i = .setTimingMode m d) ∨
      (∃ x, i = .setBusWidth x) ∨ (∃ x, i = .setPower x) →
    (s.host.lock = .free → runFrame exec (.blocked i) s = exec i s) ∧
    (s.host.lock = .held → runFrame exec (.blocked i) s = .next (pushFrames [.blocked i] s))

/-- The finish guard: a second `FINISH`, on a request already finished or being finished, does nothing at all
(45_transaction_controller.md R281). The first `FINISH` claims the request, releases the mapping, and has the decoder
of the response shape, the classifier, the stop command if there is one, and the tail next. For a DMA read it copies
the bytes that the engine has written since the mapping to the buffers, whatever has become of the engine since; every
byte outside the buffers reads as before (45_transaction_controller.md R280, R200, 20_memory.md R90; entry 14). -/
def Obligations.FinishClaimsOnceAndUnmaps : Prop :=
  (∀ s : State, s.host.irqLock = .free → s.host.mrq = none ∨ s.host.tc = .finishing → exec .finish s = .next s) ∧
  (∀ (s : State) (r : Request), s.host.irqLock = .free → s.host.mrq = some r → s.host.tc ≠ .finishing →
     s.memoryCanonical →
     let decoder := match r.cmd.rsp with
       | .none => Instr.rspNone .primary
       | .r136 => Instr.rspGet136 .primary
       | _ => Instr.rspGet48 .primary
     let frames := [Frame.call decoder, .call .checkError] ++ (if r.stop.isSome then [.call .stopIssue] else []) ++
       [.tailFinish]
     ∃ t, exec .finish s = .next (pushFrames frames t) ∧
       t.host = { s.host with tc := .finishing, dmaMapped := none } ∧ t.reg = s.reg ∧ t.bus = s.bus ∧
       t.dmaMem = s.dmaMem ∧ t.out = s.out ∧
       (s.host.dmaMapped = none ∨ (∀ d, r.data = some d → d.dir = .wr) → t.bufMem = s.bufMem) ∧
       ∀ d ms, r.data = some d → s.host.dmaMapped = some ms →
         (∀ a, a ∉ bufKeys d.sg → t.bufMem.read a = s.bufMem.read a) ∧
         (d.dir = .rd → (bufKeys d.sg).Nodup → (mappedKeys ms).length = (bufKeys d.sg).length →
           ∀ (j : Nat) (h : j < (bufKeys d.sg).length) (h' : j < (mappedKeys ms).length), j < s.bus.arrived →
             t.bufMem.read (bufKeys d.sg)[j] = s.dmaMem.read (mappedKeys ms)[j]))

/-- The return of a transaction, in both its tails: the pointer is cleared, the machine is `Idle`, the mutex is free, and
the notification is next; `FINISH` also clears `dma_int_req`; `NOTIFY` sends the request and changes nothing else
(45_transaction_controller.md R272, R280, R283, 60_exceptions.md R463). -/
def Obligations.TailReleasesAndNotifies : Prop :=
  ∀ (s : State) (r : Request),
    (s.host.mrq = some r →
      runFrame exec .tailR136 s = .next (pushFrames [.call (.notify r)]
        (s.setHost { s.host with mrq := none, tc := .idle, lock := .free })) ∧
      runFrame exec .tailFinish s = .next (pushFrames [.call (.notify r)]
        (s.setHost { s.host with mrq := none, tc := .idle, lock := .free, dmaIntReq := false }))) ∧
    exec (.notify r) s = .next (s.emit (.notify r))

/-- `STOP_ISSUE` clears `wait_failed`, encodes the stop command without data, clears the completion enable, triggers
with `tc_state` unmoved, and has the wait, the decoder and the check next (45_transaction_controller.md R282). The end
of `STOP_ISSUE`: when the error state is set or a wait of the stop failed, the stop gets its code and the hardware its
additional soft reset, and the primary command's fields and the Tuning State are left alone; else nothing
(45_transaction_controller.md R282, 60_exceptions.md R454). -/
def Obligations.StopIsSentAndChecked : Prop :=
  (∀ (s : State) (c : Command), currentCmd s .stop = some c → c.opcode.toNat ≤ 63 → s.engineReady →
     ∃ u, exec (.cmdEncode c.opcode c.arg c.rsp false) (s.setHost { s.host with waitFailed := false }) = .next u ∧
       exec .stopIssue s = .next (pushFrames
         [.call .waitFinish,
          .call (match c.rsp with
            | .none => .rspNone .stop
            | .r136 => .rspGet136 .stop
            | _ => .rspGet48 .stop),
          .stopCheck]
         (triggered (u.setReg { u.reg with cmpEn := false })))) ∧
  (∀ (s : State) (r : Request) (c : Command), s.host.mrq = some r → r.stop = some c →
     let code := if s.reg.errBits.getLsbD 0 then ErrorCode.rspTimeout else if s.reg.errBits.getLsbD 1 then .rspCrc7
       else .waitTimeout
     (s.reg.error = false → s.host.waitFailed = false → runFrame exec .stopCheck s = .next s) ∧
     (s.reg.error = true ∨ s.host.waitFailed = true →
       runFrame exec .stopCheck s = .next (pushFrames [.settle (s.now + s.cfg.settleDelay)]
         (softReset (s.setHost { s.host with mrq := some { r with stop := some { c with error := code } } })))))

/-! ### Bounded waits (family 46) -/

/-- One poll iteration of a wait: the awaited bit first, then the error-state bit, then the deadline; both failures
return -1 and set `wait_failed`, and otherwise the wait goes on with the deadline taken at its entry. Each of the four
uses is `WAIT_UNTIL` of its bit (46_bounded_waits.md R310 to R318). The bit a wait tests is the bit of the register
word a read returns, at the place the encoding gives it (46_bounded_waits.md R310, 30_encoding.md R129, R130). -/
def Obligations.WaitsTestBitErrorDeadline : Prop :=
  (∀ (s : State) (i : Instr) (b : StatusBit),
     i = .waitUntil b ∨ (i = .waitFinish ∧ b = .finished) ∨ (i = .waitRspFull ∧ b = .rspBufFull) ∨
       (i = .waitTxEmpty ∧ b = .txBufEmpty) ∨ (i = .waitRxFull ∧ b = .rxBufFull) →
     let deadline := s.now + s.cfg.waitTimeout
     let failed := returnCode (-1) (s.setHost { s.host with waitFailed := true })
     (readBit b s.reg = true → exec i s = .next (returnCode 0 s)) ∧
     (readBit b s.reg = false → s.reg.error = true → exec i s = .next failed) ∧
     (readBit b s.reg = false → s.reg.error = false → s.cfg.waitTimeout = 0 → exec i s = .next failed) ∧
     (readBit b s.reg = false → s.reg.error = false → 0 < s.cfg.waitTimeout →
       exec i s = .next (pushFrames [.poll b deadline] s)) ∧
     ∀ dl, (readBit b s.reg = true → runFrame exec (.poll b dl) s = .next (returnCode 0 s)) ∧
       (readBit b s.reg = false → s.reg.error = true ∨ dl ≤ s.now → runFrame exec (.poll b dl) s = .next failed) ∧
       (readBit b s.reg = false → s.reg.error = false → s.now < dl →
         runFrame exec (.poll b dl) s = .next (pushFrames [.poll b dl] s))) ∧
  (∀ (s : State) (b : StatusBit), ∃ w,
     exec (.regRd (.plain (bitRegister b))) s = .next (returnWord w s) ∧ w.getLsbD (bitPosition b) = readBit b s.reg)

/-! ### Errors and tuning (family 47) -/

/-- The classifier's table: first match wins, the data arms only with data, one code and one delay
(47_error_classifier_tuner.md R338, R339), with the numbers of the codes. -/
def Obligations.ClassifierFollowsTheTable : Prop :=
  [ErrorCode.rspTimeout, .rspCrc7, .stbTimeout, .rdataCrc16, .cardCrcTimeout, .crcToken].map ErrorCode.code =
    [1, 2, 3, 4, 5, 6] ∧
  ∀ (c : Cfg) (hasData : Bool) (u : BitVec 6) (token : BitVec 3),
    classifyStatus c hasData u token =
      match u.getLsbD 0, u.getLsbD 1, hasData, u.getLsbD 2, u.getLsbD 3, u.getLsbD 4, u.getLsbD 5 with
      | true, _, _, _, _, _, _ => (.rspTimeout, some .wrCmd)
      | false, true, _, _, _, _, _ => (.rspCrc7, some .rdRsp)
      | false, false, true, true, _, _, _ => (.stbTimeout, some .rdDat)
      | false, false, true, false, true, _, _ => (.rdataCrc16, some .rdDat)
      | false, false, true, false, false, true, _ => (.cardCrcTimeout, some .rdCrc)
      | false, false, true, false, false, false, true =>
        (.crcToken, some (if token == c.crcTokenWriteErr then .wrDat else .rdCrc))
      | _, _, _, _, _, _, _ => (.none, none)

/-- A clean transaction: the data counts as fully transferred, `need_tuning` is cleared, and nothing else changes
(47_error_classifier_tuner.md R331). -/
def Obligations.CleanTransactionSucceeds : Prop :=
  ∀ (s : State) (r : Request), s.host.mrq = some r → s.reg.error = false →
    (s.host.waitFailed = false ∨ (r.cmd.rsp ≠ .r136 ∧ s.cfg.timeoutNoErrbit = .success)) →
    exec .checkError s = .next (s.setHost { s.host with
      mrq := some { r with data := r.data.map fun d => { d with error := .none, bytesXfered := d.blksz * d.blocks } }
      tune := { s.host.tune with needTuning := .none } })

/-- A failed transaction: the code in the Command and the Data Descriptor with the byte count 0, the retry count unless
tuning mode is active, one delay bumped for a classified error and none for a wait timeout, the soft reset, and then the
settling delay, the write-back in tuning mode, and `need_tuning` (47_error_classifier_tuner.md R330, R340 to R346,
R348). An error state that no arm classifies writes no field and bumps no delay; the soft reset, the delay, the
write-back and `need_tuning` follow all the same (R347). Behind them `need_tuning` holds the code, and no other field of
the Tuning State changes (R345). -/
def Obligations.FailedTransactionIsClassified : Prop :=
  ∀ (s : State) (r : Request) (e : ErrorCode) (x : Option DelayName), s.host.mrq = some r →
    (s.reg.error = true ∧ classifyStatus s.cfg r.data.isSome s.reg.errBits s.reg.crcToken = (e, x)) ∨
      (s.reg.error = false ∧ s.host.waitFailed = true ∧
        (r.cmd.rsp = .r136 ∨ s.cfg.timeoutNoErrbit = .waitTimeout) ∧ e = .waitTimeout ∧ x = none) →
    let tuning := s.host.tune.needTuning ≠ .none
    let after := [Frame.settle (s.now + s.cfg.settleDelay)] ++ (if tuning then [.call .timingWriteback] else []) ++
      [.needTuning e]
    (e ≠ .none → exec .checkError s = .next (pushFrames after
      (softReset (s.setHost { s.host with
        mrq := some { r with
          cmd := { r.cmd with error := e, retries :=
            if tuning then r.cmd.retries
            else if s.cfg.lowSpeedDiv.toNat ≤ s.reg.clkDiv.toNat then s.cfg.maxRetries else s.cfg.normalRetries }
          data := r.data.map fun d => { d with error := e, bytesXfered := 0 } }
        tune := match x with
          | some x => bumpTuning s.cfg s.host.tune x
          | none => s.host.tune })))) ∧
    (e = .none → exec .checkError s = .next (pushFrames after (softReset s))) ∧
    ∀ u : State, runFrame exec (.needTuning e) u = .next (u.setHost { u.host with
      tune := { u.host.tune with needTuning := e } })

/-- `DELAY_BUMP(x)` adds 1 to the named delay modulo `2^DLY_W` and leaves the four others and `need_tuning`; no register
changes (47_error_classifier_tuner.md R349). -/
def Obligations.DelayBumpWraps : Prop :=
  ∀ (s : State) (x : DelayName), s.cfg.legal = true →
    let value := fun (t : Tuning) (y : DelayName) => match y with
      | .rdCrc => t.rdCrc.toNat
      | .rdDat => t.rdDat.toNat
      | .rdRsp => t.rdRsp.toNat
      | .wrCmd => t.wrCmd.toNat
      | .wrDat => t.wrDat.toNat
    ∃ t, exec (.delayBump x) s = .next (s.setHost { s.host with tune := t }) ∧
      value t x = (value s.host.tune x + 1) % 2 ^ s.cfg.dlyW ∧ t.needTuning = s.host.tune.needTuning ∧
      ∀ y, y ≠ x → value t y = value s.host.tune y

/-- `SW_RESET` performs the soft reset at once, from any phase of the engine, and then waits: the agent's turns change
nothing until the settling delay is over (47_error_classifier_tuner.md R342, R343). The soft reset, from any phase:
the error state, the flags, the window, the stream, both data buffers and the pending completion are cleared, the
transaction in flight is abandoned, the token is a value the spec leaves open, and every other register, the Host and
both memories stay; a trigger is legal again after the settling delay (49_host_and_bus_interfaces.md R431). -/
def Obligations.SoftResetClearsAndSettles : Prop :=
  (∀ s : State,
     (∃ u, exec .bSwReset s = .next u ∧ exec .swReset s = .next (pushFrames [.settle (s.now + s.cfg.settleDelay)] u)) ∧
     ∀ n, (n ≤ s.now → runFrame exec (.settle n) s = .next s) ∧
       (s.now < n → runFrame exec (.settle n) s = .next (pushFrames [.settle n] s))) ∧
  (∀ s : State, ∃ token, exec .bSwReset s = .next (((s.setReg { s.reg with
       finished := false, error := false, errBits := 0#6, crcToken := token, rspBufFull := false, rxBufFull := false
       txBufEmpty := true, cmpPend := false }).setBus
       { s.bus with rspStream := [], txFifo := [], rxFifo := [], phase := .idle, latched := none, dmaSlot := 0
                    dmaOff := 0, rspPhase := .done, moved := 0, dataFailed := false, sent := []
                    readyAt := s.now + s.cfg.settleDelay }).setDraws (s.draws + 1)))

/-- `TIMING_WRITEBACK` puts the five delays of the Tuning State into the five lanes of `TIMING` in one write, for every
`DLY_W`: where the delays keep to their width and the reserved bits of `TIMING` are 0, each lane holds its delay and bit
15 is 0 (47_error_classifier_tuner.md R344). -/
def Obligations.TimingWritebackWritesFiveLanes : Prop :=
  ∀ s : State, s.bus.phase = .idle → s.delaysFit → s.reservedZero →
    ∃ v, exec .timingWriteback s = .next (s.setReg { s.reg with timing := v }) ∧
      v.extractLsb' 0 3 = s.host.tune.rdCrc ∧ v.extractLsb' 3 3 = s.host.tune.rdDat ∧
      v.extractLsb' 6 3 = s.host.tune.rdRsp ∧ v.extractLsb' 9 3 = s.host.tune.wrCmd ∧
      v.extractLsb' 12 3 = s.host.tune.wrDat ∧ v.getLsbD 15 = false

/-! ### Interrupts (family 48) -/

/-- Interrupt entry reads `INT` once and has the arms of the sources that are enabled and pending next, completion first;
nothing is saved. While the handler runs a second entry does not start (48_interrupt_deferred.md R371, 60_exceptions.md
R458, R462). -/
def Obligations.InterruptEntrySelectsTheArms : Prop :=
  ∀ s : State, s.plat.irqBound = true →
    (s.i.stack = [] → ∃ w, exec .rdInt s = .next (returnWord w s) ∧
      exec .irqEntry s = .next (pushFrames
        ((if s.reg.cmpEn && s.reg.cmpPend then [.call .irqCmdDone] else []) ++
          (if s.reg.cardEn && s.reg.cardPend then [.call .irqCard] else [])) (returnWord w s))) ∧
    (s.i.stack ≠ [] → exec .irqEntry s = .next s)

/-- The completion arm disables and clears its source in one write and then decides: nothing for a spurious interrupt,
the deferred slot for a request with a stop command, which a duplicate leaves full, else a direct finish
(48_interrupt_deferred.md R372, R373, R377); that the interrupt was taken is recorded in a field of the model's own
(entry 42).
The card arm clears its pending bit, sends `card_irq`, and touches nothing else; the deferred unit empties the slot
and finishes the request, and is enabled while the slot is full (48_interrupt_deferred.md R374, R375); that it leaves the
machine as it is while the slot is empty is the model's choice (entry 23). -/
def Obligations.InterruptArmsAndDeferredUnit : Prop :=
  (∀ s : State, s.host.irqLock = .free →
     let t := s.setReg { s.reg with cmpEn := false, cmpPend := false }
     (s.host.mrq = none ∨ s.host.tc ≠ .waitingInterrupt → exec .irqCmdDone s = .next t) ∧
     ∀ r, s.host.mrq = some r → s.host.tc = .waitingInterrupt →
       (r.stop.isSome = true → exec .irqCmdDone s = .next (t.setHost { s.host with cmpTaken := true, deferred := true })) ∧
       (r.stop = none → exec .irqCmdDone s = .next (pushFrames [.call .finish]
         (t.setHost { s.host with cmpTaken := true })))) ∧
  (∀ s : State,
     exec .irqCard s = .next ((s.setReg { s.reg with cardPend := false }).emit .cardIrq) ∧
     (s.host.deferred = true →
       exec .deferredFinish s = .next (pushFrames [.call .finish] (s.setHost { s.host with deferred := false }))) ∧
     (s.host.deferred = false → exec .deferredFinish s = .next s))

/-! ### Upstream entry points (family 49) -/

/-- The configuration entry points, with the mutex free and the engine idle: the clock rate with its divider and the
use-interrupt flag, the timing mode with the delays that `TIMING_PROGRAM` programs (the tuned ones after a failure,
else the mode's defaults), the bus width, the power state; with the mutex held each stands blocked and changes nothing
(49_host_and_bus_interfaces.md R400 to R404). That `SET_CLOCK` runs on the rate 0 too, where R401 has a positive one, is
the model's choice (entry 29), and that `TIMING` counts as set for `SUBMIT` only once the clock has been set is its
reading of R505 (entry 7). `CARD_DETECT` and `VOLTAGE_SWITCH` take no lock; their results are the platform's, and only
the signal voltage changes (49_host_and_bus_interfaces.md R405, R406). `CARD_DETECT` runs at any time (R405); that
`VOLTAGE_SWITCH` runs with a request outstanding too, when U does not call it (R406), is the model's choice (entry 51). -/
def Obligations.EntryPointsSetTheHost : Prop :=
  (∀ (s : State) (rate : Word) (mode x : Byte) (ddr : Bool),
     (s.bus.phase = .idle →
       let delays := fun (m : Byte) => if s.host.tune.needTuning ≠ .none then tuningValue s.host.tune
         else timingValue (s.cfg.delayOf .rdCrc m s.reg.clkDiv) (s.cfg.delayOf .rdDat m s.reg.clkDiv)
           (s.cfg.delayOf .rdRsp m s.reg.clkDiv) (s.cfg.delayOf .wrCmd m s.reg.clkDiv)
           (s.cfg.delayOf .wrDat m s.reg.clkDiv)
       let program := fun (m : Byte) => mergeHalf s.reg.timing 0x7FFF#16 (delays m) (timingWritable s.cfg)
       exec .timingProgram s = .next ((s.setReg { s.reg with timing := program s.host.timingMode }).setHost
         { s.host with timingSet := s.host.timingSet || s.host.clockSet }) ∧
       (s.host.lock = .free →
         exec (.setClock rate) s = .next ((s.setReg { s.reg with clkDiv := s.cfg.clkDivOf s.host.srcClk rate }).setHost
           { s.host with busClock := rate, clockSet := true
                         useInt := decide (rate.toNat ≤ s.cfg.hsClock) != s.cfg.useIntFlips.contains rate }) ∧
         exec (.setTimingMode mode ddr) s = .next ((s.setReg { s.reg with timing := program mode }).setHost
           { s.host with timingMode := mode, ddr := ddr, timingSet := s.host.timingSet || s.host.clockSet }))) ∧
     (s.host.lock = .free →
       exec (.setBusWidth x) s = .next (s.setHost { s.host with busWidth := x }) ∧
       exec (.setPower x) s = .next (s.setHost { s.host with power := x })) ∧
     ∀ i, i = .setClock rate ∨ i = .setTimingMode mode ddr ∨ i = .setBusWidth x ∨ i = .setPower x →
       s.host.lock = .held → exec i s = .next (pushFrames [.blocked i] s)) ∧
  (∀ (s : State) (v : Byte), ∃ a b,
     exec .cardDetect s = .next ((s.emit (.cardPresent a)).setDraws (s.draws + 1)) ∧
     exec (.voltageSwitch v) s = .next (((s.setHost { s.host with voltage := v }).emit (.voltageResult b)).setDraws
       (s.draws + 1)))

/-- `ATTACH` with nothing outstanding pulses the reset line, starts the Host afresh from the platform and `cfg`, binds
the handler and enables the card source last; an unaligned base is refused (49_host_and_bus_interfaces.md R407,
00_scope.md R7; entry 21). Where a resource of the platform cannot be had there is no Host afterwards (R407); that
nothing else changes is the model's choice (entry 47). Of the fresh values, those that R61 and R40 leave without one are
the model's (`RegBlock.reset`, `HostCtx.fresh`: entries 6, 7), and so is that the reset line ends a settling delay that
still runs (`BusEngine.reset`: entry 27). `DETACH` ends the Host; with a request outstanding both are
refused (R408, X7; entries 21, 34). -/
def Obligations.AttachAndDetach : Prop :=
  ∀ (s : State) (base clk : Word),
    (s.host.tc = .idle → s.host.lock = .free →
      (base.toNat % 4 = 0 → s.plat.available = true →
        exec (.attach base clk) s = .next ((((s.setReg { RegBlock.reset with cardEn := true }).setBus
          BusEngine.reset).setHost (HostCtx.fresh base clk s.cfg.path s.cfg.mode)).setPlat
            { clkOn := true, rstAsserted := false, irqBound := true, available := true })) ∧
      (base.toNat % 4 = 0 → s.plat.available = false →
        exec (.attach base clk) s = .next (s.setHost { s.host with attached := false })) ∧
      (base.toNat % 4 ≠ 0 → exec (.attach base clk) s = .refused .illegalBase) ∧
      ∃ t, exec .detach s = .next t ∧ t.host.attached = false ∧ t.host.mrq = none ∧ t.reg.cmpEn = false ∧
        t.reg.cardEn = false ∧ t.plat = { s.plat with clkOn := false, rstAsserted := true, irqBound := false } ∧
        t.dmaMem = s.dmaMem ∧ t.bufMem = s.bufMem ∧ t.out = s.out) ∧
    (s.host.tc ≠ .idle ∨ s.host.lock = .held →
      exec (.attach base clk) s = .refused .requestOutstanding ∧ exec .detach s = .refused .requestOutstanding)

/-! ### The bus engine (family 49) -/

/-- `B_TRIGGER`, idle and settled: the six registers are latched, the finished flag, the window, the stream and both data
buffers are cleared, the walk starts at slot 0, the engine is busy and the command goes to the card; the error state and
`INT` are untouched. Before the settling delay has passed, and with the reserved transfer mode, it is refused
(49_host_and_bus_interfaces.md R420, R431). -/
def Obligations.TriggerLatchesAndSends : Prop :=
  ∀ s : State, s.bus.phase = .idle →
    (s.bus.readyAt ≤ s.now → ¬ (s.reg.config.getLsbD 3 = true ∧ s.reg.config.extractLsb' 5 2 = 0b11#2) →
      exec .bTrigger s = .next (((s.setReg { s.reg with
        finished := false, rspBufFull := false, txBufEmpty := true, rxBufFull := false }).setBus
        { s.bus with rspStream := [], txFifo := [], rxFifo := [], phase := .busy
                     latched := some { cmdbuf := s.reg.cmdbuf, cmdargLo := s.reg.cmdargLo, config := s.reg.config
                                       blksize := s.reg.blksize, blkcnt := s.reg.blkcnt, timing := s.reg.timing }
                     dmaSlot := 0, dmaOff := 0, rspPhase := if s.reg.config.getLsbD 0 then .waiting else .done
                     moved := 0, dataFailed := false, sent := [] }).emit
        (.cmd (s.reg.cmdbuf.extractLsb' 24 6) (s.reg.cmdbuf.extractLsb' 0 24 ++ s.reg.cmdargLo)))) ∧
    (s.now < s.bus.readyAt → exec .bTrigger s = .refused .settling) ∧
    (s.bus.readyAt ≤ s.now → s.reg.config.getLsbD 3 = true → s.reg.config.extractLsb' 5 2 = 0b11#2 →
      exec .bTrigger s = .refused .reservedTransMode)

/-- `B_RSP`, once per transaction that expects a response: a 48-bit response fills the window and a 136-bit response the
window and twelve bytes of the stream, the last of them a pad byte of no fixed value; a bad CRC7 counts only in a 48-bit
response and where the check is enabled; no response is a timeout (49_host_and_bus_interfaces.md R421,
42_response_decoder.md R206). That it leaves the machine as it is when no response is waited for, and that another length
is a fault, are the model's choices (entries 23, 17). -/
def Obligations.ResponseFillsTheWindow : Prop :=
  ∀ (s : State) (l : Latched) (ok : Bool) (bs : List Byte), s.bus.phase = .busy → s.bus.latched = some l →
    (s.bus.rspPhase ≠ .waiting → exec (.bRsp (.bytes bs ok)) s = .next s) ∧
    (s.bus.rspPhase = .waiting →
      exec (.bRsp .nothing) s = .next (s.setBus { s.bus with rspPhase := .timedOut }) ∧
      (l.config.getLsbD 1 = false → s.reg.rspBufFull = false → ∀ w0 w1 w2 w3 w4 w5,
        exec (.bRsp (.bytes [w0, w1, w2, w3, w4, w5] ok)) s =
          .next ((s.setReg { s.reg with rspHi := w0 ++ w1 ++ w2 ++ w3, rspLo := w4 ++ w5, rspBufFull := true }).setBus
            { s.bus with rspStream := [], rspPhase := if ok || !l.config.getLsbD 2 then .done else .badCrc })) ∧
      (l.config.getLsbD 1 = true → s.reg.rspBufFull = false → ∀ w0 w1 w2 w3 w4 w5 rest, rest.length = 11 → ∃ pad,
        exec (.bRsp (.bytes (w0 :: w1 :: w2 :: w3 :: w4 :: w5 :: rest) ok)) s =
          .next (((s.setReg { s.reg with rspHi := w0 ++ w1 ++ w2 ++ w3, rspLo := w4 ++ w5, rspBufFull := true }).setBus
            { s.bus with rspStream := rest ++ [pad], rspPhase := .done }).setDraws (s.draws + 1))) ∧
      (bs.length ≠ (if l.config.getLsbD 1 then 17 else 6) → exec (.bRsp (.bytes bs ok)) s = .fault .busContract))

/-- One byte of a DMA data phase: a read stores it at the walk's address, a write takes the byte there and sends it; the
position advances by one byte, or to the next slot at the end of this one; every other byte of memory reads as before; a
slot that is empty, missing, or leaves the address space is refused, and so is a direction bit that does not agree with
the transfer mode (49_host_and_bus_interfaces.md R424, R425). A read of several bytes is the reads of its bytes, and a
take of several bytes the takes of them, one after another (49_host_and_bus_interfaces.md R424, 20_memory.md R84). A byte
that a read stores counts as arrived, in a field of the model's own (entry 14). -/
def Obligations.DmaBytesMoveAtTheWalk : Prop :=
  (∀ (s : State) (l : Latched) (k : Nat) (y : Byte), s.memoryCanonical → s.bus.phase = .busy →
     s.bus.latched = some l → s.bus.dataFailed = false → (s.bus.rspPhase = .waiting ∨ s.bus.rspPhase = .done) →
     l.config.getLsbD 3 = true → l.config.getLsbD 8 = false → s.bus.dmaSlot = k →
     s.bus.moved < (l.blksize.toNat + 1) * (l.blkcnt.toNat + 1) →
     let g := s.reg.slot k
     let a := g.addr.toNat + s.bus.dmaOff
     let next := if s.bus.dmaOff + 1 = g.sectors.toNat * s.cfg.sectorSize then (k + 1, 0) else (k, s.bus.dmaOff + 1)
     let bus := { s.bus with dmaSlot := next.1, dmaOff := next.2, moved := s.bus.moved + 1 }
     let legal := k < s.cfg.maxSeg ∧ g.sectors ≠ 0#16 ∧ a < 2 ^ s.cfg.addrW
     (l.config.extractLsb' 5 2 = 0b10#2 →
       (l.config.getLsbD 7 = true → legal →
         ∃ m, exec (.bDataDma (.read [y])) s = .next ((s.setDmaMem m).setBus
             { bus with arrived := max s.bus.arrived (s.bus.moved + 1) }) ∧ m.read a = y ∧
           ∀ b, b ≠ a → m.read b = s.dmaMem.read b) ∧
       (l.config.getLsbD 7 = true → ¬ legal → exec (.bDataDma (.read [y])) s = .refused .slotWalk) ∧
       (l.config.getLsbD 7 = false → exec (.bDataDma (.read [y])) s = .refused .dmaSelMismatch)) ∧
     (l.config.extractLsb' 5 2 = 0b01#2 →
       (l.config.getLsbD 7 = false → legal →
         exec (.bDataDma (.take 1)) s = .next (s.setBus { bus with sent := s.bus.sent ++ [s.dmaMem.read a] })) ∧
       (l.config.getLsbD 7 = false → ¬ legal → exec (.bDataDma (.take 1)) s = .refused .slotWalk) ∧
       (l.config.getLsbD 7 = true → exec (.bDataDma (.take 1)) s = .refused .dmaSelMismatch))) ∧
  (∀ (s t : State) (y : Byte) (ys : List Byte), ys ≠ [] → s.memoryCanonical →
     exec (.bDataDma (.read (y :: ys))) s = .next t →
     ∃ u, exec (.bDataDma (.read [y])) s = .next u ∧ exec (.bDataDma (.read ys)) u = .next t) ∧
  ∀ (s t : State) (n : Nat), 0 < n → exec (.bDataDma (.take (n + 1))) s = .next t →
    ∃ u, exec (.bDataDma (.take 1)) s = .next u ∧ exec (.bDataDma (.take n)) u = .next t

/-- A word of a PIO data phase: a read presents four bytes at `DATA_RX`, the first in bits 7:0; a write takes the word
pushed through `DATA_TX` and sends its bytes, bits 7:0 first (49_host_and_bus_interfaces.md R423). That a read presents
four bytes also where `CONFIG.RX4B_EN` was latched 0, which R256 leaves outside the operation set, is the model's choice
(entry 44), and so are that it does where fewer than four bytes of the transfer are left, and that a write takes a word
the transfer does not need (entry 30), and that a read step leaves the machine as it is while a word still stands at `DATA_RX` (entry 23). -/
def Obligations.PioWordPassesTheEngine : Prop :=
  ∀ (s : State) (l : Latched), s.bus.phase = .busy → s.bus.latched = some l → s.bus.dataFailed = false →
    (s.bus.rspPhase = .waiting ∨ s.bus.rspPhase = .done) → l.config.getLsbD 3 = true → l.config.getLsbD 8 = true →
    (∀ y0 y1 y2 y3, l.config.extractLsb' 5 2 = 0b10#2 →
      (s.bus.moved < (l.blksize.toNat + 1) * (l.blkcnt.toNat + 1) → s.reg.rxBufFull = false →
        exec (.bDataPio (.read y0 y1 y2 y3)) s = .next ((s.setReg { s.reg with rxBufFull := true }).setBus
          { s.bus with rxFifo := s.bus.rxFifo ++ [y3 ++ y2 ++ y1 ++ y0], moved := s.bus.moved + 4 })) ∧
      (s.reg.rxBufFull = true → exec (.bDataPio (.read y0 y1 y2 y3)) s = .next s)) ∧
    (∀ b0 b1 b2 b3 rest, l.config.extractLsb' 5 2 = 0b01#2 → s.reg.txBufEmpty = false →
      s.bus.txFifo = (b3 ++ b2 ++ b1 ++ b0) :: rest →
      exec (.bDataPio .take) s = .next ((s.setReg { s.reg with txBufEmpty := true }).setBus
        { s.bus with txFifo := rest, moved := s.bus.moved + 4, sent := s.bus.sent ++ [b0, b1, b2, b3] })) ∧
    (l.config.extractLsb' 5 2 = 0b10#2 ∨ l.config.extractLsb' 5 2 = 0b01#2 →
      exec (.bDataPio .fail) s = .next (s.setBus { s.bus with dataFailed := true }))

/-- `B_END`, clean: enabled when the response phase and the data phase are complete; the finished flag is set, the
engine is idle, and the completion interrupt is raised exactly when it is enabled at that moment
(49_host_and_bus_interfaces.md R427 to R429). The token `STATE` then shows is one the spec leaves open (entry 10), and
that the step leaves the machine as it is before the response phase is complete is the model's choice (entry 23). So is
that an end does not wait for a word that was pushed through `DATA_TX` beyond the transfer (20_memory.md R91; entry
30). -/
def Obligations.CleanEndFinishes : Prop :=
  ∀ (s : State) (l : Latched), s.bus.phase = .busy → s.bus.latched = some l →
    (s.bus.rspPhase = .done →
      (l.config.getLsbD 3 = false ∨ l.config.extractLsb' 5 2 = 0b00#2 ∨
        (s.bus.dataFailed = false ∧ (l.blksize.toNat + 1) * (l.blkcnt.toNat + 1) ≤ s.bus.moved ∧
          s.reg.rxBufFull = false)) →
      ∃ token, exec (.bEnd .ok) s = .next (((s.setReg { s.reg with
        finished := true, crcToken := token, cmpPend := s.reg.cmpPend || s.reg.cmpEn }).setBus
        { s.bus with phase := .idle }).setDraws (s.draws + 1))) ∧
    (s.bus.rspPhase ≠ .done → exec (.bEnd .ok) s = .next s)

/-- `B_END`, in error, with an error set the contract admits, once a phase has failed or fails with it or all are
complete: the error state and the error bits are set together, the token stands in `STATE` when a token error is among
them, `FINISHED` is what was drawn, and an enabled completion interrupt is raised if errors raise it. After a good
response, with the data phase neither complete nor failed, it is not enabled, and leaves the machine as it is (entry
23). The empty set breaks the contract, and so does a CRC7 error alone before any response byte was captured
(49_host_and_bus_interfaces.md R421, R428, R429; entries 18, 19). -/
def Obligations.ErrorEndSetsTheErrorState : Prop :=
  ∀ (s : State) (l : Latched) (e : BitVec 6) (token : BitVec 3) (fin : Bool), s.bus.phase = .busy →
    s.bus.latched = some l →
    (endContract l.config s.bus.rspPhase s.bus.dataFailed e = true →
      (s.bus.rspPhase ≠ .done ∨ e &&& 0x3C#6 ≠ 0#6 ∨ l.config.getLsbD 3 = false ∨ l.config.extractLsb' 5 2 = 0b00#2 ∨
        (s.bus.dataFailed = false ∧ (l.blksize.toNat + 1) * (l.blkcnt.toNat + 1) ≤ s.bus.moved ∧
          s.reg.rxBufFull = false)) →
      ∃ t, exec (.bEnd (.err e token fin)) s = .next (((s.setReg { s.reg with
          finished := fin, error := true, errBits := s.reg.errBits ||| e, crcToken := t
          cmpPend := s.reg.cmpPend || (s.reg.cmpEn && s.cfg.irqOnError) }).setBus
          { s.bus with phase := .idle }).setDraws (s.draws + 1)) ∧ (e.getLsbD 5 = true → t = token)) ∧
    (endContract l.config s.bus.rspPhase s.bus.dataFailed e = true → s.bus.rspPhase = .done → e &&& 0x3C#6 = 0#6 →
      (cfgDataPhase l.config).isSome = true → s.bus.moved < (l.blksize.toNat + 1) * (l.blkcnt.toNat + 1) →
      exec (.bEnd (.err e token fin)) s = .next s) ∧
    exec (.bEnd (.err 0#6 token fin)) s = .fault .busContract ∧
    (s.bus.rspPhase = .waiting → e.getLsbD 0 = false → e.getLsbD 1 = true →
      exec (.bEnd (.err e token fin)) s = .fault .busContract) ∧
    (l.config.getLsbD 0 = false → e.getLsbD 0 = true → exec (.bEnd (.err e token fin)) s = .fault .busContract) ∧
    (l.config.getLsbD 0 = false ∨ l.config.getLsbD 2 = false ∨ l.config.getLsbD 1 = true → e.getLsbD 1 = true →
      exec (.bEnd (.err e token fin)) s = .fault .busContract)

/-- `B_CARD_IRQ` sets the card source's pending bit and nothing else, at any time; and while the engine is idle no step
of a transaction behind its trigger is enabled (49_host_and_bus_interfaces.md R430, R432); that such a step leaves the
machine as it is, is the model's choice (entry 23). -/
def Obligations.IdleEngineTakesNoStep : Prop :=
  ∀ s : State,
    exec .bCardIrq s = .next (s.setReg { s.reg with cardPend := true }) ∧
    (s.bus.phase = .idle → ∀ i, (∃ a, i = .bRsp a) ∨ (∃ a, i = .bDataDma a) ∨ (∃ a, i = .bDataPio a) ∨
      (∃ a, i = .bEnd a) → exec i s = .next s)
end

