-- ==== Sys2Proof/Laws/Codec.lean ====
section
/-! SUPPORT. Each operand reader reads back what its writer wrote, and leaves the bytes behind it. -/

namespace Sys2Proof

@[simp] theorem except_ok_bind {ε α β : Type} (a : α) (f : α → Except ε β) : (Except.ok a >>= f) = f a := rfl

@[simp] theorem getByte_cons (b : Byte) (r : List Byte) : getByte (b :: r) = .ok (b, r) := rfl

@[simp] theorem getWord_putWord (w : Word) (r : List Byte) : getWord (putWord w ++ r) = .ok (w, r) := by
  simp only [putWord, List.cons_append, List.nil_append, getWord]
  congr 2
  apply BitVec.eq_of_getLsbD_eq
  intro i hi
  simp only [BitVec.getLsbD_append, BitVec.getLsbD_extractLsb']
  by_cases h1 : i < 8
  · simp [h1]
  · by_cases h2 : i < 16
    · simp [h1, show i - 8 < 8 by omega, show 8 + (i - 8) = i by omega]
    · by_cases h3 : i < 24
      · simp [h1, show ¬ i - 8 < 8 by omega, show i - 8 - 8 < 8 by omega, show 16 + (i - 8 - 8) = i by omega]
      · simp [h1, show ¬ i - 8 < 8 by omega, show ¬ i - 8 - 8 < 8 by omega, show i - 8 - 8 - 8 < 8 by omega,
          show 24 + (i - 8 - 8 - 8) = i by omega]

/-- A number that fits its bytes reads back. -/
theorem getNat_putNat {k n : Nat} (h : n < 256 ^ k) (r : List Byte) : getNat k (putNat k n ++ r) = .ok (n, r) := by
  induction k generalizing n with
  | zero => simp at h; subst h; rfl
  | succ k ih =>
    have h' : n / 256 < 256 ^ k := by
      rw [Nat.div_lt_iff_lt_mul (by omega)]; rwa [Nat.pow_succ] at h
    simp only [putNat, List.cons_append, getNat, ih h', BitVec.toNat_ofNat]
    congr 2
    omega

/-- Bytes of a known number read back. -/
@[simp] theorem getBytes_append (xs r : List Byte) : getBytes xs.length (xs ++ r) = .ok (xs, r) := by
  induction xs with
  | nil => rfl
  | cons x xs ih => simp [getBytes, ih]

/-- A code of one byte reads back as the value its table gives. -/
theorem getCode_cons {α : Type} {f : Nat → Option α} {b : Byte} {a : α} (h : f b.toNat = some a) (r : List Byte) :
    getCode f (b :: r) = .ok (a, r) := by
  simp [getCode, h]

@[simp] theorem getCode_putBool (b : Bool) (r : List Byte) : getCode boolOf (putBool b ++ r) = .ok (b, r) := by
  cases b <;> rfl

@[simp] theorem getCode_putError (e : ErrorCode) (r : List Byte) : getCode errorOf (putError e ++ r) = .ok (e, r) := by
  cases e <;> rfl

@[simp] theorem getCode_putShape (x : RspShape) (r : List Byte) : getCode shapeOf (putShape x ++ r) = .ok (x, r) := by
  cases x <;> rfl

@[simp] theorem getCode_putDir (x : Dir) (r : List Byte) : getCode dirOf (putDir x ++ r) = .ok (x, r) := by
  cases x <;> rfl

@[simp] theorem getCode_putCmdSel (x : CmdSel) (r : List Byte) :
    getCode cmdSelOf (putCmdSel x ++ r) = .ok (x, r) := by
  cases x <;> rfl

@[simp] theorem getCode_putWaitSel (x : WaitSel) (r : List Byte) :
    getCode waitSelOf (putWaitSel x ++ r) = .ok (x, r) := by
  cases x <;> rfl

@[simp] theorem getCode_putStatusBit (x : StatusBit) (r : List Byte) :
    getCode statusBitOf (putStatusBit x ++ r) = .ok (x, r) := by
  cases x <;> rfl

@[simp] theorem getCode_putDelay (x : DelayName) (r : List Byte) :
    getCode delayOf (putDelay x ++ r) = .ok (x, r) := by
  cases x <;> rfl

@[simp] theorem getCode_putMasked (x : MaskedReg) (r : List Byte) :
    getCode maskedOf (putMasked x ++ r) = .ok (x, r) := by
  cases x <;> rfl

/-- An offset from that of slot 0 on is a register of the descriptor table. -/
theorem regOf_slot {n : Nat} (h : 0x40 ≤ n) : regOf n = slotRegOf n := by
  unfold regOf
  split <;> first | omega | rfl

theorem regOf_offset {x : Reg} (h : x.offset < 256) : regOf (BitVec.ofNat 8 x.offset).toNat = some x := by
  rw [BitVec.toNat_ofNat, Nat.mod_eq_of_lt h]
  cases x with
  | masked m => cases m <;> rfl
  | plain p =>
    cases p
    case dmaBase k =>
      simp only [Reg.offset]
      rw [regOf_slot (by omega), slotRegOf, if_neg (by omega), if_pos (by omega)]
      congr 3; omega
    case dmaSize k =>
      simp only [Reg.offset]
      rw [regOf_slot (by omega), slotRegOf, if_neg (by omega), if_neg (by omega), if_pos (by omega)]
      congr 3; omega
    all_goals rfl

theorem getCode_putReg {x : Reg} (h : x.offset < 256) (r : List Byte) : getCode regOf (putReg x ++ r) = .ok (x, r) :=
  getCode_cons (regOf_offset h) r

theorem getCode_putPlain {x : PlainReg} (h : (Reg.plain x).offset < 256) (r : List Byte) :
    getCode plainOf (putPlain x ++ r) = .ok (x, r) := by
  refine getCode_cons ?_ r
  rw [plainOf, regOf_offset h]

@[simp] theorem getOptWord_putOptWord (w : Option Word) (r : List Byte) :
    getOptWord (putOptWord w ++ r) = .ok (w, r) := by
  cases w <;> simp [getOptWord, putOptWord]

theorem getCommand_putCommand {c : Command} (h : c.wf = true) (r : List Byte) :
    getCommand (putCommand c ++ r) = .ok (c, r) := by
  have h : c.retries < 256 ^ 4 := by simpa [Command.wf] using h
  simp [getCommand, putCommand, getNat_putNat h]

theorem getSegments_putSegments {gs : List Segment} (h : gs.all Segment.wf = true) (r : List Byte) :
    getSegments gs.length (putSegments gs ++ r) = .ok (gs, r) := by
  induction gs with
  | nil => rfl
  | cons g gs ih =>
    rw [List.all_cons, Bool.and_eq_true] at h
    have hl : g.len < 256 ^ 8 := by simpa [Segment.wf] using h.1
    simp [getSegments, putSegments, getNat_putNat hl, ih h.2]

theorem getData_putData {d : DataDesc} (h : d.wf = true) (r : List Byte) :
    getData (putData d ++ r) = .ok (d, r) := by
  simp only [DataDesc.wf, Bool.and_eq_true, decide_eq_true_eq] at h
  obtain ⟨⟨⟨⟨h1, h2⟩, h3⟩, h4⟩, h5⟩ := h
  simp [getData, putData, getNat_putNat (k := 8) h1, getNat_putNat (k := 8) h2, getNat_putNat (k := 8) h3,
    getNat_putNat (k := 2) h4, getSegments_putSegments h5]

theorem getOpt_putOpt {α : Type} {g : Get α} {p : α → List Byte} {x : Option α} (r : List Byte)
    (h : ∀ a ∈ x, ∀ r, g (p a ++ r) = .ok (a, r)) : getOpt g (putOpt p x ++ r) = .ok (x, r) := by
  cases x with
  | none => simp [getOpt, putOpt]
  | some a => simp [getOpt, putOpt, h a rfl]

theorem getRequest_putRequest {q : Request} (h : q.wf = true) (r : List Byte) :
    getRequest (putRequest q ++ r) = .ok (q, r) := by
  simp only [Request.wf, Bool.and_eq_true] at h
  obtain ⟨⟨h1, h2⟩, h3⟩ := h
  have hd : ∀ r, getOpt getData (putOpt putData q.data ++ r) = .ok (q.data, r) := fun r =>
    getOpt_putOpt r fun d hd r => getData_putData (by rw [Option.mem_def] at hd; rw [hd] at h2; simpa using h2) r
  have hs : ∀ r, getOpt getCommand (putOpt putCommand q.stop ++ r) = .ok (q.stop, r) := fun r =>
    getOpt_putOpt r fun d hd r => getCommand_putCommand (by rw [Option.mem_def] at hd; rw [hd] at h3; simpa using h3) r
  simp [getRequest, putRequest, getCommand_putCommand h1, hd, hs]

theorem getRspAnswer_putRspAnswer {a : RspAnswer} (h : a.wf = true) (r : List Byte) :
    getRspAnswer (putRspAnswer a ++ r) = .ok (a, r) := by
  cases a with
  | nothing => simp [getRspAnswer, putRspAnswer]
  | bytes bs ok =>
    have h : bs.length < 256 ^ 1 := by simpa [RspAnswer.wf] using h
    simp [getRspAnswer, putRspAnswer, getNat_putNat h]

theorem getDmaAnswer_putDmaAnswer {a : DmaAnswer} (h : a.wf = true) (r : List Byte) :
    getDmaAnswer (putDmaAnswer a ++ r) = .ok (a, r) := by
  cases a with
  | fail => simp [getDmaAnswer, putDmaAnswer, getNat_putNat (k := 1) (n := 2) (by decide)]
  | read bs =>
    have h : bs.length < 256 ^ 2 := by simpa [DmaAnswer.wf] using h
    simp [getDmaAnswer, putDmaAnswer, getNat_putNat h, getNat_putNat (k := 1) (n := 0) (by decide)]
  | take n =>
    have h : n < 256 ^ 2 := by simpa [DmaAnswer.wf] using h
    simp [getDmaAnswer, putDmaAnswer, getNat_putNat h, getNat_putNat (k := 1) (n := 1) (by decide)]

@[simp] theorem getPioAnswer_putPioAnswer (a : PioAnswer) (r : List Byte) :
    getPioAnswer (putPioAnswer a ++ r) = .ok (a, r) := by
  cases a <;>
    simp [getPioAnswer, putPioAnswer, getNat_putNat (k := 1) (n := 0) (by decide),
      getNat_putNat (k := 1) (n := 1) (by decide), getNat_putNat (k := 1) (n := 2) (by decide)]

/-- A six-bit code reads back. -/
theorem getCode_errorSet (e : BitVec 6) (r : List Byte) :
    getCode (fun n => if n < 64 then some (BitVec.ofNat 6 n) else none) (e.setWidth 8 :: r) = .ok (e, r) := by
  refine getCode_cons ?_ r
  have := e.isLt
  simp [show e.toNat % 256 = e.toNat by omega, show e.toNat < 64 by omega]

/-- A three-bit code reads back. -/
theorem getCode_token (t : BitVec 3) (r : List Byte) :
    getCode (fun n => if n < 8 then some (BitVec.ofNat 3 n) else none) (t.setWidth 8 :: r) = .ok (t, r) := by
  refine getCode_cons ?_ r
  have := t.isLt
  simp [show t.toNat % 256 = t.toNat by omega, show t.toNat < 8 by omega]

@[simp] theorem getEndAnswer_putEndAnswer (a : EndAnswer) (r : List Byte) :
    getEndAnswer (putEndAnswer a ++ r) = .ok (a, r) := by
  cases a with
  | ok => simp [getEndAnswer, putEndAnswer]
  | err e t f => simp [getEndAnswer, putEndAnswer, getCode_errorSet, getCode_token]

end Sys2Proof
end

