-- ==== Sys2Proof/Laws/Memory.lean ====
section
/-! SUPPORT. Read after write, and that every memory operation keeps the canonical form. -/

namespace Sys2Proof.Machine

/-! ### Bounds and the canonical form -/

/-- A canonical memory above a bound is one above a lower bound. -/
theorem Memory.wfAbove_mono {lo hi : Option Nat} {m : Memory} (h : Memory.wfAbove hi m = true)
    (hlo : ∀ l ∈ lo, ∃ k ∈ hi, l ≤ k) : Memory.wfAbove lo m = true := by
  cases m with
  | nil => rfl
  | cons e m =>
    simp only [Memory.wfAbove, Bool.and_eq_true] at h ⊢
    refine ⟨⟨?_, h.1.2⟩, h.2⟩
    cases lo with
    | none => rfl
    | some l =>
      obtain ⟨k, hk, hlk⟩ := hlo l rfl
      cases hk
      have := h.1.1
      simp only [Option.all_some, decide_eq_true_eq] at this ⊢
      omega

/-- The parts of the canonical form of a non-empty memory. -/
theorem Memory.wfAbove_cons {lo : Option Nat} {a : Nat} {b : Byte} {m : Memory} :
    Memory.wfAbove lo ((a, b) :: m) = true ↔
      (∀ l ∈ lo, l < a) ∧ b ≠ Memory.unlisted ∧ Memory.wfAbove (some a) m = true := by
  cases lo <;> simp [Memory.wfAbove, and_assoc]

/-- A memory lists nothing at or below its bound. -/
theorem Memory.read_below {lo : Nat} {m : Memory} (h : Memory.wfAbove (some lo) m = true) {k : Nat} (hk : k ≤ lo) :
    m.read k = Memory.unlisted := by
  induction m generalizing lo with
  | nil => rfl
  | cons e m ih =>
    obtain ⟨a, b⟩ := e
    obtain ⟨h1, -, h3⟩ := Memory.wfAbove_cons.1 h
    have := h1 lo rfl
    simp only [Memory.read, if_neg (show k ≠ a by omega)]
    exact ih h3 (by omega)

theorem Memory.wfAbove_erase {lo : Option Nat} {m : Memory} (h : Memory.wfAbove lo m = true) (k : Nat) :
    Memory.wfAbove lo (m.erase k) = true := by
  induction m generalizing lo with
  | nil => rfl
  | cons e m ih =>
    obtain ⟨a, b⟩ := e
    obtain ⟨h1, h2, h3⟩ := Memory.wfAbove_cons.1 h
    unfold Memory.erase
    split
    · exact Memory.wfAbove_mono h3 fun l hl => ⟨a, rfl, Nat.le_of_lt (h1 l hl)⟩
    · split
      · exact h
      · exact Memory.wfAbove_cons.2 ⟨h1, h2, ih h3⟩

theorem Memory.wfAbove_insert {lo : Option Nat} {m : Memory} (h : Memory.wfAbove lo m = true) {k : Nat} {v : Byte}
    (hv : v ≠ Memory.unlisted) (hk : ∀ l ∈ lo, l < k) : Memory.wfAbove lo (m.insert k v) = true := by
  induction m generalizing lo with
  | nil => exact Memory.wfAbove_cons.2 ⟨hk, hv, rfl⟩
  | cons e m ih =>
    obtain ⟨a, b⟩ := e
    obtain ⟨h1, h2, h3⟩ := Memory.wfAbove_cons.1 h
    unfold Memory.insert
    split
    · subst k; exact Memory.wfAbove_cons.2 ⟨h1, hv, h3⟩
    · split
      · exact Memory.wfAbove_cons.2 ⟨hk, hv, Memory.wfAbove_cons.2 ⟨by simpa using ‹k < a›, h2, h3⟩⟩
      · exact Memory.wfAbove_cons.2 ⟨h1, h2, ih h3 (by simp; omega)⟩

/-- A write keeps the canonical form. -/
theorem Memory.wf_write {m : Memory} (h : m.wf = true) (k : Nat) (v : Byte) : (m.write k v).wf = true := by
  unfold Memory.write
  split
  · exact Memory.wfAbove_erase h k
  · exact Memory.wfAbove_insert h ‹_› (by simp)

/-! ### Reading -/

theorem Memory.read_insert (m : Memory) (k j : Nat) (v : Byte) :
    (m.insert k v).read j = if j = k then v else m.read j := by
  induction m with
  | nil => simp [Memory.insert, Memory.read]
  | cons e m ih =>
    obtain ⟨a, b⟩ := e
    unfold Memory.insert
    split
    · subst k; simp [Memory.read]; split <;> rfl
    · split
      · simp [Memory.read]
      · simp only [Memory.read, ih]
        by_cases hj : j = a
        · subst j; simp [show a ≠ k by omega]
        · simp [hj]

theorem Memory.read_erase {lo : Option Nat} {m : Memory} (h : Memory.wfAbove lo m = true) (k j : Nat) :
    (m.erase k).read j = if j = k then Memory.unlisted else m.read j := by
  induction m generalizing lo with
  | nil => simp [Memory.erase, Memory.read]
  | cons e m ih =>
    obtain ⟨a, b⟩ := e
    obtain ⟨h1, h2, h3⟩ := Memory.wfAbove_cons.1 h
    unfold Memory.erase
    split
    · subst k
      by_cases hj : j = a
      · subst j; simpa using Memory.read_below h3 (Nat.le_refl _)
      · simp [Memory.read, hj]
    · split
      · by_cases hj : j = k
        · subst j
          simp only [Memory.read, if_neg ‹¬ k = a›, if_true]
          exact Memory.read_below h3 (by omega)
        · simp [hj]
      · simp only [Memory.read, ih h3]
        by_cases hj : j = a
        · subst j; simp [show a ≠ k by omega]
        · simp [hj]

/-- What a byte reads as after a write: the byte written there, and every other byte as before. -/
theorem Memory.read_write {m : Memory} (h : m.wf = true) (k j : Nat) (v : Byte) :
    (m.write k v).read j = if j = k then v else m.read j := by
  unfold Memory.write
  split
  · rw [Memory.read_erase h]; subst v; rfl
  · exact Memory.read_insert ..

/-- A byte reads as it was written. -/
theorem Memory.read_write_same {m : Memory} (h : m.wf = true) (k : Nat) (v : Byte) : (m.write k v).read k = v := by
  simp [Memory.read_write h]

/-- A write leaves every other byte. -/
theorem Memory.read_write_other {m : Memory} (h : m.wf = true) {k j : Nat} (v : Byte) (hj : j ≠ k) :
    (m.write k v).read j = m.read j := by
  simp [Memory.read_write h, hj]

/-! ### Words of a buffer -/

/-- Two bytes of one buffer have one key only when their offsets agree. -/
theorem bufKey_inj {buf buf' : Word} {off off' : Nat} (h : bufKey buf off = bufKey buf' off') :
    buf = buf' ∧ off = off' := by
  unfold bufKey at h
  have h1 := buf.isLt
  have h2 := buf'.isLt
  have : buf.toNat = buf'.toNat := by omega
  exact ⟨BitVec.eq_of_toNat_eq this, by omega⟩

theorem wf_writeBufWord {m : Memory} (h : m.wf = true) (buf : Word) (off : Nat) (w : Word) :
    (writeBufWord m buf off w).wf = true :=
  Memory.wf_write (Memory.wf_write (Memory.wf_write (Memory.wf_write h _ _) _ _) _ _) _ _

/-- A stored word leaves every byte outside its four. -/
theorem read_writeBufWord_other {m : Memory} (h : m.wf = true) (buf : Word) (off : Nat) (w : Word) {j : Nat}
    (h0 : j ≠ bufKey buf off) (h1 : j ≠ bufKey buf (off + 1)) (h2 : j ≠ bufKey buf (off + 2))
    (h3 : j ≠ bufKey buf (off + 3)) : (writeBufWord m buf off w).read j = m.read j := by
  have a := Memory.wf_write h (bufKey buf off) (byteOfWord w 0)
  have b := Memory.wf_write a (bufKey buf (off + 1)) (byteOfWord w 1)
  have c := Memory.wf_write b (bufKey buf (off + 2)) (byteOfWord w 2)
  simp only [writeBufWord]
  rw [Memory.read_write_other c _ h3, Memory.read_write_other b _ h2, Memory.read_write_other a _ h1,
    Memory.read_write_other h _ h0]

/-- A stored word reads back as its four bytes, the lowest first. -/
theorem read_writeBufWord {m : Memory} (h : m.wf = true) (buf : Word) (off : Nat) (w : Word) :
    (writeBufWord m buf off w).read (bufKey buf off) = byteOfWord w 0 ∧
    (writeBufWord m buf off w).read (bufKey buf (off + 1)) = byteOfWord w 1 ∧
    (writeBufWord m buf off w).read (bufKey buf (off + 2)) = byteOfWord w 2 ∧
    (writeBufWord m buf off w).read (bufKey buf (off + 3)) = byteOfWord w 3 := by
  have a := Memory.wf_write h (bufKey buf off) (byteOfWord w 0)
  have b := Memory.wf_write a (bufKey buf (off + 1)) (byteOfWord w 1)
  have c := Memory.wf_write b (bufKey buf (off + 2)) (byteOfWord w 2)
  have d : ∀ i j, i ≠ j → bufKey buf i ≠ bufKey buf j := fun i j hij he => hij (bufKey_inj he).2
  simp only [writeBufWord, Memory.read_write c, Memory.read_write b, Memory.read_write a, Memory.read_write h]
  simp [d]

/-! ### Mapped bytes -/

/-- Writing many bytes keeps the canonical form. -/
theorem wf_writeKeys {m : Memory} (h : m.wf = true) (ks : List Nat) (bs : List Byte) :
    (writeKeys m ks bs).wf = true := by
  induction m, ks, bs using writeKeys.induct with
  | case1 m k ks b bs ih => simpa [writeKeys] using ih (Memory.wf_write h k b)
  | case2 m ks bs hc => rw [writeKeys.eq_2 _ _ _ hc]; exact h

/-- Writing many bytes leaves every byte that is not among them. -/
theorem read_writeKeys_other {m : Memory} (h : m.wf = true) (ks : List Nat) (bs : List Byte) {j : Nat} (hj : j ∉ ks) :
    (writeKeys m ks bs).read j = m.read j := by
  induction m, ks, bs using writeKeys.induct with
  | case1 m k ks b bs ih =>
    rw [List.mem_cons, not_or] at hj
    rw [writeKeys, ih (Memory.wf_write h k b) hj.2, Memory.read_write_other h b hj.1]
  | case2 m ks bs hc => rw [writeKeys.eq_2 _ _ _ hc]

/-- Bytes written at as many places, no two alike, are read there. -/
theorem map_read_writeKeys {m : Memory} (h : m.wf = true) {ks : List Nat} (hn : ks.Nodup) {bs : List Byte}
    (hl : ks.length = bs.length) : ks.map (writeKeys m ks bs).read = bs := by
  induction ks generalizing m bs with
  | nil => exact (List.length_eq_zero_iff.1 hl.symm).symm
  | cons k ks ih =>
    cases bs with
    | nil => exact absurd hl (by simp)
    | cons b bs =>
      rw [List.nodup_cons] at hn
      have hw := Memory.wf_write h k b
      rw [List.map_cons, writeKeys, ih hw hn.2 (by simpa using hl), read_writeKeys_other hw ks bs hn.1,
        Memory.read_write h, if_pos rfl]

/-! ### Reads that fail (43_data_path_configurator.md R227, 44_pio_engine.md R253) -/

/-- What the free bytes of a failed read change: the buffer bytes at `ks`, and the draw counter. -/
theorem freeBytes_eq (ks : List Nat) (s : State) :
    ∃ m, freeBytes ks s = (s.setBufMem m).setDraws (s.draws + ks.length) ∧ (s.bufMem.wf = true →
      m.wf = true ∧ (∀ k, k ∉ ks → m.read k = s.bufMem.read k) ∧
      (ks.Nodup → ks.map m.read = (List.range ks.length).map fun j => Config.freeByte (s.draws + j))) :=
  ⟨_, rfl, fun h => ⟨wf_writeKeys h _ _, fun _ hk => read_writeKeys_other h _ _ hk,
    fun hn => map_read_writeKeys h hn (by simp)⟩⟩

/-- A write whose mapping fails changes no buffer. -/
theorem freeBuffers_wr {d : DataDesc} (h : d.dir = .wr) (s : State) : freeBuffers d s = s := by simp [freeBuffers, h]

/-- A read whose mapping fails frees its buffers. -/
theorem freeBuffers_rd {d : DataDesc} (h : d.dir = .rd) (s : State) : freeBuffers d s = freeBytes (bufKeys d.sg) s := by
  simp [freeBuffers, h]

/-- An aborted write changes no buffer. -/
@[simp] theorem abortAt_wr (off : Nat) (segs : List Segment) (s : State) : abortAt .wr off segs s = s := rfl

/-- An aborted read frees the bytes left. -/
@[simp] theorem abortAt_rd (off : Nat) (segs : List Segment) (s : State) :
    abortAt .rd off segs s = freeBytes (abortedKeys s.cfg.pioAbortScope off segs) s := rfl

end Sys2Proof.Machine
end

