-- ==== Sys2Proof/Laws/State.lean ====
section
/-! SUPPORT. One lemma per field per named update of the state, and the fields of a context update. -/

namespace Sys2Proof.Machine

section setReg
variable (s : State) (x : RegBlock)

@[simp] theorem State.setReg_cfg : (s.setReg x).cfg = s.cfg := rfl
@[simp] theorem State.setReg_reg : (s.setReg x).reg = x := rfl
@[simp] theorem State.setReg_bus : (s.setReg x).bus = s.bus := rfl
@[simp] theorem State.setReg_host : (s.setReg x).host = s.host := rfl
@[simp] theorem State.setReg_plat : (s.setReg x).plat = s.plat := rfl
@[simp] theorem State.setReg_maps : (s.setReg x).maps = s.maps := rfl
@[simp] theorem State.setReg_dmaMem : (s.setReg x).dmaMem = s.dmaMem := rfl
@[simp] theorem State.setReg_bufMem : (s.setReg x).bufMem = s.bufMem := rfl
@[simp] theorem State.setReg_now : (s.setReg x).now = s.now := rfl
@[simp] theorem State.setReg_draws : (s.setReg x).draws = s.draws := rfl
@[simp] theorem State.setReg_p : (s.setReg x).p = s.p := rfl
@[simp] theorem State.setReg_i : (s.setReg x).i = s.i := rfl
@[simp] theorem State.setReg_w : (s.setReg x).w = s.w := rfl
@[simp] theorem State.setReg_cancels : (s.setReg x).cancels = s.cancels := rfl
@[simp] theorem State.setReg_actor : (s.setReg x).actor = s.actor := rfl
@[simp] theorem State.setReg_sched : (s.setReg x).sched = s.sched := rfl
@[simp] theorem State.setReg_out : (s.setReg x).out = s.out := rfl
@[simp] theorem State.setReg_setReg (y : RegBlock) : (s.setReg x).setReg y = s.setReg y := rfl

end setReg

section setBus
variable (s : State) (x : BusEngine)

@[simp] theorem State.setBus_cfg : (s.setBus x).cfg = s.cfg := rfl
@[simp] theorem State.setBus_reg : (s.setBus x).reg = s.reg := rfl
@[simp] theorem State.setBus_bus : (s.setBus x).bus = x := rfl
@[simp] theorem State.setBus_host : (s.setBus x).host = s.host := rfl
@[simp] theorem State.setBus_plat : (s.setBus x).plat = s.plat := rfl
@[simp] theorem State.setBus_maps : (s.setBus x).maps = s.maps := rfl
@[simp] theorem State.setBus_dmaMem : (s.setBus x).dmaMem = s.dmaMem := rfl
@[simp] theorem State.setBus_bufMem : (s.setBus x).bufMem = s.bufMem := rfl
@[simp] theorem State.setBus_now : (s.setBus x).now = s.now := rfl
@[simp] theorem State.setBus_draws : (s.setBus x).draws = s.draws := rfl
@[simp] theorem State.setBus_p : (s.setBus x).p = s.p := rfl
@[simp] theorem State.setBus_i : (s.setBus x).i = s.i := rfl
@[simp] theorem State.setBus_w : (s.setBus x).w = s.w := rfl
@[simp] theorem State.setBus_cancels : (s.setBus x).cancels = s.cancels := rfl
@[simp] theorem State.setBus_actor : (s.setBus x).actor = s.actor := rfl
@[simp] theorem State.setBus_sched : (s.setBus x).sched = s.sched := rfl
@[simp] theorem State.setBus_out : (s.setBus x).out = s.out := rfl
@[simp] theorem State.setBus_setBus (y : BusEngine) : (s.setBus x).setBus y = s.setBus y := rfl

end setBus

section setHost
variable (s : State) (x : HostCtx)

@[simp] theorem State.setHost_cfg : (s.setHost x).cfg = s.cfg := rfl
@[simp] theorem State.setHost_reg : (s.setHost x).reg = s.reg := rfl
@[simp] theorem State.setHost_bus : (s.setHost x).bus = s.bus := rfl
@[simp] theorem State.setHost_host : (s.setHost x).host = x := rfl
@[simp] theorem State.setHost_plat : (s.setHost x).plat = s.plat := rfl
@[simp] theorem State.setHost_maps : (s.setHost x).maps = s.maps := rfl
@[simp] theorem State.setHost_dmaMem : (s.setHost x).dmaMem = s.dmaMem := rfl
@[simp] theorem State.setHost_bufMem : (s.setHost x).bufMem = s.bufMem := rfl
@[simp] theorem State.setHost_now : (s.setHost x).now = s.now := rfl
@[simp] theorem State.setHost_draws : (s.setHost x).draws = s.draws := rfl
@[simp] theorem State.setHost_p : (s.setHost x).p = s.p := rfl
@[simp] theorem State.setHost_i : (s.setHost x).i = s.i := rfl
@[simp] theorem State.setHost_w : (s.setHost x).w = s.w := rfl
@[simp] theorem State.setHost_cancels : (s.setHost x).cancels = s.cancels := rfl
@[simp] theorem State.setHost_actor : (s.setHost x).actor = s.actor := rfl
@[simp] theorem State.setHost_sched : (s.setHost x).sched = s.sched := rfl
@[simp] theorem State.setHost_out : (s.setHost x).out = s.out := rfl
@[simp] theorem State.setHost_setHost (y : HostCtx) : (s.setHost x).setHost y = s.setHost y := rfl

end setHost

section setPlat
variable (s : State) (x : Platform)

@[simp] theorem State.setPlat_cfg : (s.setPlat x).cfg = s.cfg := rfl
@[simp] theorem State.setPlat_reg : (s.setPlat x).reg = s.reg := rfl
@[simp] theorem State.setPlat_bus : (s.setPlat x).bus = s.bus := rfl
@[simp] theorem State.setPlat_host : (s.setPlat x).host = s.host := rfl
@[simp] theorem State.setPlat_plat : (s.setPlat x).plat = x := rfl
@[simp] theorem State.setPlat_maps : (s.setPlat x).maps = s.maps := rfl
@[simp] theorem State.setPlat_dmaMem : (s.setPlat x).dmaMem = s.dmaMem := rfl
@[simp] theorem State.setPlat_bufMem : (s.setPlat x).bufMem = s.bufMem := rfl
@[simp] theorem State.setPlat_now : (s.setPlat x).now = s.now := rfl
@[simp] theorem State.setPlat_draws : (s.setPlat x).draws = s.draws := rfl
@[simp] theorem State.setPlat_p : (s.setPlat x).p = s.p := rfl
@[simp] theorem State.setPlat_i : (s.setPlat x).i = s.i := rfl
@[simp] theorem State.setPlat_w : (s.setPlat x).w = s.w := rfl
@[simp] theorem State.setPlat_cancels : (s.setPlat x).cancels = s.cancels := rfl
@[simp] theorem State.setPlat_actor : (s.setPlat x).actor = s.actor := rfl
@[simp] theorem State.setPlat_sched : (s.setPlat x).sched = s.sched := rfl
@[simp] theorem State.setPlat_out : (s.setPlat x).out = s.out := rfl
@[simp] theorem State.setPlat_setPlat (y : Platform) : (s.setPlat x).setPlat y = s.setPlat y := rfl

end setPlat

section setDmaMem
variable (s : State) (x : Memory)

@[simp] theorem State.setDmaMem_cfg : (s.setDmaMem x).cfg = s.cfg := rfl
@[simp] theorem State.setDmaMem_reg : (s.setDmaMem x).reg = s.reg := rfl
@[simp] theorem State.setDmaMem_bus : (s.setDmaMem x).bus = s.bus := rfl
@[simp] theorem State.setDmaMem_host : (s.setDmaMem x).host = s.host := rfl
@[simp] theorem State.setDmaMem_plat : (s.setDmaMem x).plat = s.plat := rfl
@[simp] theorem State.setDmaMem_maps : (s.setDmaMem x).maps = s.maps := rfl
@[simp] theorem State.setDmaMem_dmaMem : (s.setDmaMem x).dmaMem = x := rfl
@[simp] theorem State.setDmaMem_bufMem : (s.setDmaMem x).bufMem = s.bufMem := rfl
@[simp] theorem State.setDmaMem_now : (s.setDmaMem x).now = s.now := rfl
@[simp] theorem State.setDmaMem_draws : (s.setDmaMem x).draws = s.draws := rfl
@[simp] theorem State.setDmaMem_p : (s.setDmaMem x).p = s.p := rfl
@[simp] theorem State.setDmaMem_i : (s.setDmaMem x).i = s.i := rfl
@[simp] theorem State.setDmaMem_w : (s.setDmaMem x).w = s.w := rfl
@[simp] theorem State.setDmaMem_cancels : (s.setDmaMem x).cancels = s.cancels := rfl
@[simp] theorem State.setDmaMem_actor : (s.setDmaMem x).actor = s.actor := rfl
@[simp] theorem State.setDmaMem_sched : (s.setDmaMem x).sched = s.sched := rfl
@[simp] theorem State.setDmaMem_out : (s.setDmaMem x).out = s.out := rfl
@[simp] theorem State.setDmaMem_setDmaMem (y : Memory) : (s.setDmaMem x).setDmaMem y = s.setDmaMem y := rfl

end setDmaMem

section setBufMem
variable (s : State) (x : Memory)

@[simp] theorem State.setBufMem_cfg : (s.setBufMem x).cfg = s.cfg := rfl
@[simp] theorem State.setBufMem_reg : (s.setBufMem x).reg = s.reg := rfl
@[simp] theorem State.setBufMem_bus : (s.setBufMem x).bus = s.bus := rfl
@[simp] theorem State.setBufMem_host : (s.setBufMem x).host = s.host := rfl
@[simp] theorem State.setBufMem_plat : (s.setBufMem x).plat = s.plat := rfl
@[simp] theorem State.setBufMem_maps : (s.setBufMem x).maps = s.maps := rfl
@[simp] theorem State.setBufMem_dmaMem : (s.setBufMem x).dmaMem = s.dmaMem := rfl
@[simp] theorem State.setBufMem_bufMem : (s.setBufMem x).bufMem = x := rfl
@[simp] theorem State.setBufMem_now : (s.setBufMem x).now = s.now := rfl
@[simp] theorem State.setBufMem_draws : (s.setBufMem x).draws = s.draws := rfl
@[simp] theorem State.setBufMem_p : (s.setBufMem x).p = s.p := rfl
@[simp] theorem State.setBufMem_i : (s.setBufMem x).i = s.i := rfl
@[simp] theorem State.setBufMem_w : (s.setBufMem x).w = s.w := rfl
@[simp] theorem State.setBufMem_cancels : (s.setBufMem x).cancels = s.cancels := rfl
@[simp] theorem State.setBufMem_actor : (s.setBufMem x).actor = s.actor := rfl
@[simp] theorem State.setBufMem_sched : (s.setBufMem x).sched = s.sched := rfl
@[simp] theorem State.setBufMem_out : (s.setBufMem x).out = s.out := rfl
@[simp] theorem State.setBufMem_setBufMem (y : Memory) : (s.setBufMem x).setBufMem y = s.setBufMem y := rfl

end setBufMem

section setNow
variable (s : State) (x : Nat)

@[simp] theorem State.setNow_cfg : (s.setNow x).cfg = s.cfg := rfl
@[simp] theorem State.setNow_reg : (s.setNow x).reg = s.reg := rfl
@[simp] theorem State.setNow_bus : (s.setNow x).bus = s.bus := rfl
@[simp] theorem State.setNow_host : (s.setNow x).host = s.host := rfl
@[simp] theorem State.setNow_plat : (s.setNow x).plat = s.plat := rfl
@[simp] theorem State.setNow_maps : (s.setNow x).maps = s.maps := rfl
@[simp] theorem State.setNow_dmaMem : (s.setNow x).dmaMem = s.dmaMem := rfl
@[simp] theorem State.setNow_bufMem : (s.setNow x).bufMem = s.bufMem := rfl
@[simp] theorem State.setNow_now : (s.setNow x).now = x := rfl
@[simp] theorem State.setNow_draws : (s.setNow x).draws = s.draws := rfl
@[simp] theorem State.setNow_p : (s.setNow x).p = s.p := rfl
@[simp] theorem State.setNow_i : (s.setNow x).i = s.i := rfl
@[simp] theorem State.setNow_w : (s.setNow x).w = s.w := rfl
@[simp] theorem State.setNow_cancels : (s.setNow x).cancels = s.cancels := rfl
@[simp] theorem State.setNow_actor : (s.setNow x).actor = s.actor := rfl
@[simp] theorem State.setNow_sched : (s.setNow x).sched = s.sched := rfl
@[simp] theorem State.setNow_out : (s.setNow x).out = s.out := rfl
@[simp] theorem State.setNow_setNow (y : Nat) : (s.setNow x).setNow y = s.setNow y := rfl

end setNow

section setDraws
variable (s : State) (x : Nat)

@[simp] theorem State.setDraws_cfg : (s.setDraws x).cfg = s.cfg := rfl
@[simp] theorem State.setDraws_reg : (s.setDraws x).reg = s.reg := rfl
@[simp] theorem State.setDraws_bus : (s.setDraws x).bus = s.bus := rfl
@[simp] theorem State.setDraws_host : (s.setDraws x).host = s.host := rfl
@[simp] theorem State.setDraws_plat : (s.setDraws x).plat = s.plat := rfl
@[simp] theorem State.setDraws_maps : (s.setDraws x).maps = s.maps := rfl
@[simp] theorem State.setDraws_dmaMem : (s.setDraws x).dmaMem = s.dmaMem := rfl
@[simp] theorem State.setDraws_bufMem : (s.setDraws x).bufMem = s.bufMem := rfl
@[simp] theorem State.setDraws_now : (s.setDraws x).now = s.now := rfl
@[simp] theorem State.setDraws_draws : (s.setDraws x).draws = x := rfl
@[simp] theorem State.setDraws_p : (s.setDraws x).p = s.p := rfl
@[simp] theorem State.setDraws_i : (s.setDraws x).i = s.i := rfl
@[simp] theorem State.setDraws_w : (s.setDraws x).w = s.w := rfl
@[simp] theorem State.setDraws_cancels : (s.setDraws x).cancels = s.cancels := rfl
@[simp] theorem State.setDraws_actor : (s.setDraws x).actor = s.actor := rfl
@[simp] theorem State.setDraws_sched : (s.setDraws x).sched = s.sched := rfl
@[simp] theorem State.setDraws_out : (s.setDraws x).out = s.out := rfl
@[simp] theorem State.setDraws_setDraws (y : Nat) : (s.setDraws x).setDraws y = s.setDraws y := rfl

end setDraws

section setCancels
variable (s : State) (x : List Nat)

@[simp] theorem State.setCancels_cfg : (s.setCancels x).cfg = s.cfg := rfl
@[simp] theorem State.setCancels_reg : (s.setCancels x).reg = s.reg := rfl
@[simp] theorem State.setCancels_bus : (s.setCancels x).bus = s.bus := rfl
@[simp] theorem State.setCancels_host : (s.setCancels x).host = s.host := rfl
@[simp] theorem State.setCancels_plat : (s.setCancels x).plat = s.plat := rfl
@[simp] theorem State.setCancels_maps : (s.setCancels x).maps = s.maps := rfl
@[simp] theorem State.setCancels_dmaMem : (s.setCancels x).dmaMem = s.dmaMem := rfl
@[simp] theorem State.setCancels_bufMem : (s.setCancels x).bufMem = s.bufMem := rfl
@[simp] theorem State.setCancels_now : (s.setCancels x).now = s.now := rfl
@[simp] theorem State.setCancels_draws : (s.setCancels x).draws = s.draws := rfl
@[simp] theorem State.setCancels_p : (s.setCancels x).p = s.p := rfl
@[simp] theorem State.setCancels_i : (s.setCancels x).i = s.i := rfl
@[simp] theorem State.setCancels_w : (s.setCancels x).w = s.w := rfl
@[simp] theorem State.setCancels_cancels : (s.setCancels x).cancels = x := rfl
@[simp] theorem State.setCancels_actor : (s.setCancels x).actor = s.actor := rfl
@[simp] theorem State.setCancels_sched : (s.setCancels x).sched = s.sched := rfl
@[simp] theorem State.setCancels_out : (s.setCancels x).out = s.out := rfl
@[simp] theorem State.setCancels_setCancels (y : List Nat) : (s.setCancels x).setCancels y = s.setCancels y := rfl

end setCancels

section setActor
variable (s : State) (x : Agent)

@[simp] theorem State.setActor_cfg : (s.setActor x).cfg = s.cfg := rfl
@[simp] theorem State.setActor_reg : (s.setActor x).reg = s.reg := rfl
@[simp] theorem State.setActor_bus : (s.setActor x).bus = s.bus := rfl
@[simp] theorem State.setActor_host : (s.setActor x).host = s.host := rfl
@[simp] theorem State.setActor_plat : (s.setActor x).plat = s.plat := rfl
@[simp] theorem State.setActor_maps : (s.setActor x).maps = s.maps := rfl
@[simp] theorem State.setActor_dmaMem : (s.setActor x).dmaMem = s.dmaMem := rfl
@[simp] theorem State.setActor_bufMem : (s.setActor x).bufMem = s.bufMem := rfl
@[simp] theorem State.setActor_now : (s.setActor x).now = s.now := rfl
@[simp] theorem State.setActor_draws : (s.setActor x).draws = s.draws := rfl
@[simp] theorem State.setActor_p : (s.setActor x).p = s.p := rfl
@[simp] theorem State.setActor_i : (s.setActor x).i = s.i := rfl
@[simp] theorem State.setActor_w : (s.setActor x).w = s.w := rfl
@[simp] theorem State.setActor_cancels : (s.setActor x).cancels = s.cancels := rfl
@[simp] theorem State.setActor_actor : (s.setActor x).actor = x := rfl
@[simp] theorem State.setActor_sched : (s.setActor x).sched = s.sched := rfl
@[simp] theorem State.setActor_out : (s.setActor x).out = s.out := rfl
@[simp] theorem State.setActor_setActor (y : Agent) : (s.setActor x).setActor y = s.setActor y := rfl

end setActor

section setSched
variable (s : State) (x : List Event)

@[simp] theorem State.setSched_cfg : (s.setSched x).cfg = s.cfg := rfl
@[simp] theorem State.setSched_reg : (s.setSched x).reg = s.reg := rfl
@[simp] theorem State.setSched_bus : (s.setSched x).bus = s.bus := rfl
@[simp] theorem State.setSched_host : (s.setSched x).host = s.host := rfl
@[simp] theorem State.setSched_plat : (s.setSched x).plat = s.plat := rfl
@[simp] theorem State.setSched_maps : (s.setSched x).maps = s.maps := rfl
@[simp] theorem State.setSched_dmaMem : (s.setSched x).dmaMem = s.dmaMem := rfl
@[simp] theorem State.setSched_bufMem : (s.setSched x).bufMem = s.bufMem := rfl
@[simp] theorem State.setSched_now : (s.setSched x).now = s.now := rfl
@[simp] theorem State.setSched_draws : (s.setSched x).draws = s.draws := rfl
@[simp] theorem State.setSched_p : (s.setSched x).p = s.p := rfl
@[simp] theorem State.setSched_i : (s.setSched x).i = s.i := rfl
@[simp] theorem State.setSched_w : (s.setSched x).w = s.w := rfl
@[simp] theorem State.setSched_cancels : (s.setSched x).cancels = s.cancels := rfl
@[simp] theorem State.setSched_actor : (s.setSched x).actor = s.actor := rfl
@[simp] theorem State.setSched_sched : (s.setSched x).sched = x := rfl
@[simp] theorem State.setSched_out : (s.setSched x).out = s.out := rfl
@[simp] theorem State.setSched_setSched (y : List Event) : (s.setSched x).setSched y = s.setSched y := rfl

end setSched

section setP
variable (s : State) (x : List Ctx)

@[simp] theorem State.setP_cfg : (s.setP x).cfg = s.cfg := rfl
@[simp] theorem State.setP_reg : (s.setP x).reg = s.reg := rfl
@[simp] theorem State.setP_bus : (s.setP x).bus = s.bus := rfl
@[simp] theorem State.setP_host : (s.setP x).host = s.host := rfl
@[simp] theorem State.setP_plat : (s.setP x).plat = s.plat := rfl
@[simp] theorem State.setP_maps : (s.setP x).maps = s.maps := rfl
@[simp] theorem State.setP_dmaMem : (s.setP x).dmaMem = s.dmaMem := rfl
@[simp] theorem State.setP_bufMem : (s.setP x).bufMem = s.bufMem := rfl
@[simp] theorem State.setP_now : (s.setP x).now = s.now := rfl
@[simp] theorem State.setP_draws : (s.setP x).draws = s.draws := rfl
@[simp] theorem State.setP_p : (s.setP x).p = x := rfl
@[simp] theorem State.setP_i : (s.setP x).i = s.i := rfl
@[simp] theorem State.setP_w : (s.setP x).w = s.w := rfl
@[simp] theorem State.setP_cancels : (s.setP x).cancels = s.cancels := rfl
@[simp] theorem State.setP_actor : (s.setP x).actor = s.actor := rfl
@[simp] theorem State.setP_sched : (s.setP x).sched = s.sched := rfl
@[simp] theorem State.setP_out : (s.setP x).out = s.out := rfl
@[simp] theorem State.setP_setP (y : List Ctx) : (s.setP x).setP y = s.setP y := rfl

end setP

section setI
variable (s : State) (x : Ctx)

@[simp] theorem State.setI_cfg : (s.setI x).cfg = s.cfg := rfl
@[simp] theorem State.setI_reg : (s.setI x).reg = s.reg := rfl
@[simp] theorem State.setI_bus : (s.setI x).bus = s.bus := rfl
@[simp] theorem State.setI_host : (s.setI x).host = s.host := rfl
@[simp] theorem State.setI_plat : (s.setI x).plat = s.plat := rfl
@[simp] theorem State.setI_maps : (s.setI x).maps = s.maps := rfl
@[simp] theorem State.setI_dmaMem : (s.setI x).dmaMem = s.dmaMem := rfl
@[simp] theorem State.setI_bufMem : (s.setI x).bufMem = s.bufMem := rfl
@[simp] theorem State.setI_now : (s.setI x).now = s.now := rfl
@[simp] theorem State.setI_draws : (s.setI x).draws = s.draws := rfl
@[simp] theorem State.setI_p : (s.setI x).p = s.p := rfl
@[simp] theorem State.setI_i : (s.setI x).i = x := rfl
@[simp] theorem State.setI_w : (s.setI x).w = s.w := rfl
@[simp] theorem State.setI_cancels : (s.setI x).cancels = s.cancels := rfl
@[simp] theorem State.setI_actor : (s.setI x).actor = s.actor := rfl
@[simp] theorem State.setI_sched : (s.setI x).sched = s.sched := rfl
@[simp] theorem State.setI_out : (s.setI x).out = s.out := rfl
@[simp] theorem State.setI_setI (y : Ctx) : (s.setI x).setI y = s.setI y := rfl

end setI

section setW
variable (s : State) (x : Ctx)

@[simp] theorem State.setW_cfg : (s.setW x).cfg = s.cfg := rfl
@[simp] theorem State.setW_reg : (s.setW x).reg = s.reg := rfl
@[simp] theorem State.setW_bus : (s.setW x).bus = s.bus := rfl
@[simp] theorem State.setW_host : (s.setW x).host = s.host := rfl
@[simp] theorem State.setW_plat : (s.setW x).plat = s.plat := rfl
@[simp] theorem State.setW_maps : (s.setW x).maps = s.maps := rfl
@[simp] theorem State.setW_dmaMem : (s.setW x).dmaMem = s.dmaMem := rfl
@[simp] theorem State.setW_bufMem : (s.setW x).bufMem = s.bufMem := rfl
@[simp] theorem State.setW_now : (s.setW x).now = s.now := rfl
@[simp] theorem State.setW_draws : (s.setW x).draws = s.draws := rfl
@[simp] theorem State.setW_p : (s.setW x).p = s.p := rfl
@[simp] theorem State.setW_i : (s.setW x).i = s.i := rfl
@[simp] theorem State.setW_w : (s.setW x).w = x := rfl
@[simp] theorem State.setW_cancels : (s.setW x).cancels = s.cancels := rfl
@[simp] theorem State.setW_actor : (s.setW x).actor = s.actor := rfl
@[simp] theorem State.setW_sched : (s.setW x).sched = s.sched := rfl
@[simp] theorem State.setW_out : (s.setW x).out = s.out := rfl
@[simp] theorem State.setW_setW (y : Ctx) : (s.setW x).setW y = s.setW y := rfl

end setW

section emit
variable (s : State) (o : Output)

@[simp] theorem State.emit_cfg : (s.emit o).cfg = s.cfg := rfl
@[simp] theorem State.emit_reg : (s.emit o).reg = s.reg := rfl
@[simp] theorem State.emit_bus : (s.emit o).bus = s.bus := rfl
@[simp] theorem State.emit_host : (s.emit o).host = s.host := rfl
@[simp] theorem State.emit_plat : (s.emit o).plat = s.plat := rfl
@[simp] theorem State.emit_maps : (s.emit o).maps = s.maps := rfl
@[simp] theorem State.emit_dmaMem : (s.emit o).dmaMem = s.dmaMem := rfl
@[simp] theorem State.emit_bufMem : (s.emit o).bufMem = s.bufMem := rfl
@[simp] theorem State.emit_now : (s.emit o).now = s.now := rfl
@[simp] theorem State.emit_draws : (s.emit o).draws = s.draws := rfl
@[simp] theorem State.emit_p : (s.emit o).p = s.p := rfl
@[simp] theorem State.emit_i : (s.emit o).i = s.i := rfl
@[simp] theorem State.emit_w : (s.emit o).w = s.w := rfl
@[simp] theorem State.emit_cancels : (s.emit o).cancels = s.cancels := rfl
@[simp] theorem State.emit_actor : (s.emit o).actor = s.actor := rfl
@[simp] theorem State.emit_sched : (s.emit o).sched = s.sched := rfl
@[simp] theorem State.emit_out : (s.emit o).out = o :: s.out := rfl

end emit

/-! ### Context updates leave everything but the contexts -/

section setCtx
variable (s : State) (a : Agent) (c : Ctx)

@[simp] theorem setCtx_cfg : (setCtx s a c).cfg = s.cfg := by cases a <;> rfl
@[simp] theorem setCtx_reg : (setCtx s a c).reg = s.reg := by cases a <;> rfl
@[simp] theorem setCtx_bus : (setCtx s a c).bus = s.bus := by cases a <;> rfl
@[simp] theorem setCtx_host : (setCtx s a c).host = s.host := by cases a <;> rfl
@[simp] theorem setCtx_plat : (setCtx s a c).plat = s.plat := by cases a <;> rfl
@[simp] theorem setCtx_maps : (setCtx s a c).maps = s.maps := by cases a <;> rfl
@[simp] theorem setCtx_dmaMem : (setCtx s a c).dmaMem = s.dmaMem := by cases a <;> rfl
@[simp] theorem setCtx_bufMem : (setCtx s a c).bufMem = s.bufMem := by cases a <;> rfl
@[simp] theorem setCtx_now : (setCtx s a c).now = s.now := by cases a <;> rfl
@[simp] theorem setCtx_draws : (setCtx s a c).draws = s.draws := by cases a <;> rfl
@[simp] theorem setCtx_cancels : (setCtx s a c).cancels = s.cancels := by cases a <;> rfl
@[simp] theorem setCtx_actor : (setCtx s a c).actor = s.actor := by cases a <;> rfl
@[simp] theorem setCtx_sched : (setCtx s a c).sched = s.sched := by cases a <;> rfl
@[simp] theorem setCtx_out : (setCtx s a c).out = s.out := by cases a <;> rfl

end setCtx

section returnWord
variable (s : State) (w : Word)

@[simp] theorem returnWord_cfg : (returnWord w s).cfg = s.cfg := setCtx_cfg ..
@[simp] theorem returnWord_reg : (returnWord w s).reg = s.reg := setCtx_reg ..
@[simp] theorem returnWord_bus : (returnWord w s).bus = s.bus := setCtx_bus ..
@[simp] theorem returnWord_host : (returnWord w s).host = s.host := setCtx_host ..
@[simp] theorem returnWord_plat : (returnWord w s).plat = s.plat := setCtx_plat ..
@[simp] theorem returnWord_maps : (returnWord w s).maps = s.maps := setCtx_maps ..
@[simp] theorem returnWord_dmaMem : (returnWord w s).dmaMem = s.dmaMem := setCtx_dmaMem ..
@[simp] theorem returnWord_bufMem : (returnWord w s).bufMem = s.bufMem := setCtx_bufMem ..
@[simp] theorem returnWord_now : (returnWord w s).now = s.now := setCtx_now ..
@[simp] theorem returnWord_draws : (returnWord w s).draws = s.draws := setCtx_draws ..
@[simp] theorem returnWord_cancels : (returnWord w s).cancels = s.cancels := setCtx_cancels ..
@[simp] theorem returnWord_actor : (returnWord w s).actor = s.actor := setCtx_actor ..
@[simp] theorem returnWord_sched : (returnWord w s).sched = s.sched := setCtx_sched ..
@[simp] theorem returnWord_out : (returnWord w s).out = s.out := setCtx_out ..

end returnWord

section returnCode
variable (s : State) (r : Int)

@[simp] theorem returnCode_cfg : (returnCode r s).cfg = s.cfg := setCtx_cfg ..
@[simp] theorem returnCode_reg : (returnCode r s).reg = s.reg := setCtx_reg ..
@[simp] theorem returnCode_bus : (returnCode r s).bus = s.bus := setCtx_bus ..
@[simp] theorem returnCode_host : (returnCode r s).host = s.host := setCtx_host ..
@[simp] theorem returnCode_plat : (returnCode r s).plat = s.plat := setCtx_plat ..
@[simp] theorem returnCode_maps : (returnCode r s).maps = s.maps := setCtx_maps ..
@[simp] theorem returnCode_dmaMem : (returnCode r s).dmaMem = s.dmaMem := setCtx_dmaMem ..
@[simp] theorem returnCode_bufMem : (returnCode r s).bufMem = s.bufMem := setCtx_bufMem ..
@[simp] theorem returnCode_now : (returnCode r s).now = s.now := setCtx_now ..
@[simp] theorem returnCode_draws : (returnCode r s).draws = s.draws := setCtx_draws ..
@[simp] theorem returnCode_cancels : (returnCode r s).cancels = s.cancels := setCtx_cancels ..
@[simp] theorem returnCode_actor : (returnCode r s).actor = s.actor := setCtx_actor ..
@[simp] theorem returnCode_sched : (returnCode r s).sched = s.sched := setCtx_sched ..
@[simp] theorem returnCode_out : (returnCode r s).out = s.out := setCtx_out ..

end returnCode

section pushFrames
variable (s : State) (fs : List Frame)

@[simp] theorem pushFrames_cfg : (pushFrames fs s).cfg = s.cfg := setCtx_cfg ..
@[simp] theorem pushFrames_reg : (pushFrames fs s).reg = s.reg := setCtx_reg ..
@[simp] theorem pushFrames_bus : (pushFrames fs s).bus = s.bus := setCtx_bus ..
@[simp] theorem pushFrames_host : (pushFrames fs s).host = s.host := setCtx_host ..
@[simp] theorem pushFrames_plat : (pushFrames fs s).plat = s.plat := setCtx_plat ..
@[simp] theorem pushFrames_maps : (pushFrames fs s).maps = s.maps := setCtx_maps ..
@[simp] theorem pushFrames_dmaMem : (pushFrames fs s).dmaMem = s.dmaMem := setCtx_dmaMem ..
@[simp] theorem pushFrames_bufMem : (pushFrames fs s).bufMem = s.bufMem := setCtx_bufMem ..
@[simp] theorem pushFrames_now : (pushFrames fs s).now = s.now := setCtx_now ..
@[simp] theorem pushFrames_draws : (pushFrames fs s).draws = s.draws := setCtx_draws ..
@[simp] theorem pushFrames_cancels : (pushFrames fs s).cancels = s.cancels := setCtx_cancels ..
@[simp] theorem pushFrames_actor : (pushFrames fs s).actor = s.actor := setCtx_actor ..
@[simp] theorem pushFrames_sched : (pushFrames fs s).sched = s.sched := setCtx_sched ..
@[simp] theorem pushFrames_out : (pushFrames fs s).out = s.out := setCtx_out ..

end pushFrames

/-! ### Contexts -/

/-- Reading back the entry that was replaced. -/
theorem entryAt_setEntryAt_same {α : Type} (d : α) (l : List α) (n : Nat) (y : α) :
    entryAt d (setEntryAt d l n y) n = y := by
  induction l, n, y using setEntryAt.induct <;> simp_all [setEntryAt, entryAt]

/-- Replacing an entry leaves the others. -/
theorem entryAt_setEntryAt_other {α : Type} (d : α) (l : List α) (n m : Nat) (y : α) (h : m ≠ n) :
    entryAt d (setEntryAt d l n y) m = entryAt d l m := by
  induction l, n, y using setEntryAt.induct generalizing m <;> cases m <;> simp_all [setEntryAt, entryAt]

/-- Replacing an entry twice. -/
theorem setEntryAt_setEntryAt {α : Type} (d : α) (l : List α) (n : Nat) (y z : α) :
    setEntryAt d (setEntryAt d l n y) n z = setEntryAt d l n z := by
  induction l, n, y using setEntryAt.induct <;> simp_all [setEntryAt]

/-- Reading back the slot that was replaced. -/
@[simp] theorem slot_setSlot_same (r : RegBlock) (k : Nat) (g : Slot) : (r.setSlot k g).slot k = g :=
  entryAt_setEntryAt_same ..

/-- Replacing a slot leaves the others. -/
theorem slot_setSlot_other (r : RegBlock) (k j : Nat) (g : Slot) (h : j ≠ k) : (r.setSlot k g).slot j = r.slot j :=
  entryAt_setEntryAt_other _ _ _ _ _ h

/-- Replacing a slot twice. -/
@[simp] theorem setSlot_setSlot (r : RegBlock) (k : Nat) (g f : Slot) : (r.setSlot k g).setSlot k f = r.setSlot k f := by
  simp [RegBlock.setSlot, setEntryAt_setEntryAt]

/-- An agent other than the bus engine has the context it was given. -/
theorem getCtx_setCtx_same (s : State) (a : Agent) (c : Ctx) (h : a ≠ .b) : getCtx (setCtx s a c) a = c := by
  cases a with
  | p tid => exact entryAt_setEntryAt_same _ s.p tid c
  | i => rfl
  | w => rfl
  | b => exact absurd rfl h

/-- A context update leaves the other agents' contexts. -/
theorem getCtx_setCtx_other (s : State) (a d : Agent) (c : Ctx) (h : d ≠ a) : getCtx (setCtx s a c) d = getCtx s d := by
  cases a <;> cases d <;> simp_all [getCtx, setCtx]
  case p.p t u => exact entryAt_setEntryAt_other _ s.p t u c (by simpa using h)

/-- Giving an agent its context twice. -/
theorem setCtx_setCtx (s : State) (a : Agent) (c d : Ctx) : setCtx (setCtx s a c) a d = setCtx s a d := by
  cases a <;> simp [setCtx, State.setP, State.setI, State.setW, setCtxAt, setEntryAt_setEntryAt]

/-- The acting agent's context after an update of it. -/
theorem actorCtx_setCtx (s : State) (c : Ctx) (h : s.actor ≠ .b) : actorCtx (setCtx s s.actor c) = c := by
  simpa [actorCtx] using getCtx_setCtx_same s s.actor c h

/-- The acting agent's stack after frames have been put in front of it. -/
theorem stack_pushFrames (s : State) (fs : List Frame) (h : s.actor ≠ .b) :
    (actorCtx (pushFrames fs s)).stack = fs ++ (actorCtx s).stack := by
  rw [pushFrames, actorCtx_setCtx s _ h]

/-- The word the acting agent's operation returned. -/
theorem word_returnWord (s : State) (w : Word) (h : s.actor ≠ .b) : (actorCtx (returnWord w s)).word = w := by
  rw [returnWord, actorCtx_setCtx s _ h]

/-- The code the acting agent's operation returned. -/
theorem ret_returnCode (s : State) (r : Int) (h : s.actor ≠ .b) : (actorCtx (returnCode r s)).ret = r := by
  rw [returnCode, actorCtx_setCtx s _ h]

end Sys2Proof.Machine
end

