-- ==== Sys2Proof/Laws/Operations.lean ====
section
/-! SUPPORT. One lemma per shared operation that says once what it does: the forms proofs cite instead of unfolding. -/

namespace Sys2Proof.Machine

/-! ### Sequencing -/

@[simp] theorem andThen_next (s : State) (f : State → Res) : andThen (.next s) f = f s := rfl
@[simp] theorem andThen_fault (r : Fault) (f : State → Res) : andThen (.fault r) f = .fault r := rfl
@[simp] theorem andThen_refused (r : Refusal) (f : State → Res) : andThen (.refused r) f = .refused r := rfl

/-- A sequence answers a next state through a next state of its first part. -/
theorem andThen_eq_next {o : Res} {f : State → Res} {t : State} :
    andThen o f = .next t ↔ ∃ u, o = .next u ∧ f u = .next t := by
  cases o <;> simp [andThen]

/-- A guarded register write answers a next state only while the engine is idle. -/
theorem whenIdle_eq_next {s t : State} {o : Res} : whenIdle s o = .next t ↔ s.bus.phase = .idle ∧ o = .next t := by
  unfold whenIdle; cases s.bus.phase <;> simp

/-- While the engine is idle the guard lets the write through. -/
@[simp] theorem whenIdle_idle {s : State} {o : Res} (h : s.bus.phase = .idle) : whenIdle s o = o := by
  simp [whenIdle, h]

/-- While the engine is busy the guard refuses (70_reset_and_hazards.md R510). -/
theorem whenIdle_busy {s : State} {o : Res} (h : s.bus.phase = .busy) : whenIdle s o = .refused .busBusy := by
  simp [whenIdle, h]

/-- An operation that takes the mutex runs, or stands blocked. -/
theorem whenUnlocked_eq_next {i : Instr} {s t : State} {o : Res} :
    whenUnlocked i s o = .next t ↔
      (s.host.lock = .free ∧ o = .next t) ∨ (s.host.lock = .held ∧ t = pushFrames [.blocked i] s) := by
  unfold whenUnlocked; cases s.host.lock <;> simp [eq_comm]

@[simp] theorem whenUnlocked_free {i : Instr} {s : State} {o : Res} (h : s.host.lock = .free) :
    whenUnlocked i s o = o := by
  simp [whenUnlocked, h]

/-- An operation that takes the spinlock runs, or spins. -/
theorem whenIrqUnlocked_eq_next {i : Instr} {s t : State} {o : Res} :
    whenIrqUnlocked i s o = .next t ↔
      (s.host.irqLock = .free ∧ o = .next t) ∨ (s.host.irqLock = .held ∧ t = pushFrames [.call i] s) := by
  unfold whenIrqUnlocked; cases s.host.irqLock <;> simp [eq_comm]

@[simp] theorem whenIrqUnlocked_free {i : Instr} {s : State} {o : Res} (h : s.host.irqLock = .free) :
    whenIrqUnlocked i s o = o := by
  simp [whenIrqUnlocked, h]

/-! ### The masked-write word -/

theorem extractLsb'_append_high (x y : BitVec 16) : (x ++ y).extractLsb' 16 16 = x := by
  apply BitVec.eq_of_getLsbD_eq
  intro i hi
  rw [BitVec.getLsbD_extractLsb', BitVec.getLsbD_append, if_neg (by omega)]
  simp [hi]

theorem extractLsb'_append_low (x y : BitVec 16) : (x ++ y).extractLsb' 0 16 = y := by
  apply BitVec.eq_of_getLsbD_eq
  intro i hi
  rw [BitVec.getLsbD_extractLsb', BitVec.getLsbD_append, if_pos (by omega)]
  simp [hi]

@[simp] theorem maskHalf_mw (m v : Half) : maskHalf (mw m v) = m := extractLsb'_append_high m (v &&& m)

@[simp] theorem valueHalf_mw (m v : Half) : valueHalf (mw m v) = v &&& m := extractLsb'_append_low m (v &&& m)

/-- One bit of a merge (40_register_access.md R164). -/
theorem mergeHalf_getLsbD (old mask value writable : Half) (i : Nat) :
    (mergeHalf old mask value writable).getLsbD i =
      if (mask &&& writable).getLsbD i then value.getLsbD i else old.getLsbD i := by
  by_cases hi : i < 16
  · simp only [mergeHalf, BitVec.getLsbD_or, BitVec.getLsbD_and, BitVec.getLsbD_not, hi, decide_true, Bool.true_and]
    cases mask.getLsbD i <;> cases writable.getLsbD i <;> simp
  · simp only [BitVec.getLsbD_of_ge _ i (Nat.le_of_not_lt hi)]
    split <;> rfl

/-- A bit that the mask does not select keeps its value (R164). -/
theorem mergeHalf_unselected (old mask value writable : Half) (i : Nat) (h : (mask &&& writable).getLsbD i = false) :
    (mergeHalf old mask value writable).getLsbD i = old.getLsbD i := by
  rw [mergeHalf_getLsbD, h]; rfl

/-- A writable bit that the mask selects takes the value bit (R164). -/
theorem mergeHalf_selected (old mask value writable : Half) (i : Nat) (h : (mask &&& writable).getLsbD i = true) :
    (mergeHalf old mask value writable).getLsbD i = value.getLsbD i := by
  rw [mergeHalf_getLsbD, h]; rfl

/-- A zero mask changes nothing (R164, 93_implementation_defined.md X9). -/
@[simp] theorem mergeHalf_zero (old value writable : Half) : mergeHalf old 0#16 value writable = old := by
  apply BitVec.eq_of_getLsbD_eq
  intro i _
  exact mergeHalf_unselected _ _ _ _ _ (by simp)

/-- A merge keeps the reserved bits zero. -/
theorem mergeHalf_reserved {old writable : Half} (h : old &&& ~~~writable = 0#16) (mask value : Half) :
    mergeHalf old mask value writable &&& ~~~writable = 0#16 := by
  apply BitVec.eq_of_getLsbD_eq
  intro i hi
  have := congrArg (fun b : Half => b.getLsbD i) h
  simp only [BitVec.getLsbD_and, mergeHalf_getLsbD, BitVec.getLsbD_not, hi, decide_true, Bool.true_and] at this ⊢
  cases hw : writable.getLsbD i
  · rw [hw] at this; simpa using this
  · simp

/-! ### Action writes of `CTRL` (R167) -/

/-- The trigger write is the trigger. -/
@[simp] theorem triggerWrite_eq (s : State) : triggerWrite s = trigger s := by
  simp [triggerWrite, regWriteMasked, writeCtrl]

/-- The soft-reset write is the soft reset. -/
@[simp] theorem softResetWrite_eq (s : State) : softResetWrite s = .next (softReset s) := by
  simp [softResetWrite, regWriteMasked, writeCtrl]

/-- All a trigger can do (49_host_and_bus_interfaces.md R420). -/
theorem trigger_eq_next {s t : State} :
    trigger s = .next t ↔
      s.bus.phase = .idle ∧ s.bus.readyAt ≤ s.now ∧ reservedMode s.reg.config = false ∧ t = triggered s := by
  unfold trigger
  rw [whenIdle_eq_next]
  by_cases h1 : s.now < s.bus.readyAt
  · simp [h1, Nat.not_le_of_lt h1]
  · by_cases h2 : reservedMode s.reg.config = true
    · simp [h1, h2]
    · have h3 : s.bus.readyAt ≤ s.now := Nat.le_of_not_lt h1
      simp [h1, h2, h3, eq_comm]

/-- `SW_RESET` always answers: the soft reset, then the delay and what stands behind it (47_error_classifier_tuner.md
R342, R343). -/
theorem resetAndSettle_eq (after : List Frame) (s : State) :
    resetAndSettle after s =
      .next (pushFrames (.settle (s.now + s.cfg.settleDelay) :: after) (softReset s)) := by
  simp [resetAndSettle]

/-! ### Bounded waits -/

/-- All one poll iteration can do (46_bounded_waits.md R310, R315). -/
theorem pollThen_cases (b : StatusBit) (deadline : Nat) (again : Frame) (done fail : State → Res) (s : State) :
    (readBit b s.reg = true ∧ pollThen b deadline again done fail s = done (returnCode 0 s)) ∨
    (readBit b s.reg = false ∧ (s.reg.error = true ∨ deadline ≤ s.now) ∧
      pollThen b deadline again done fail s = fail (waitFailure s)) ∨
    (readBit b s.reg = false ∧ s.reg.error = false ∧ s.now < deadline ∧
      pollThen b deadline again done fail s = .next (pushFrames [again] s)) := by
  unfold pollThen pollOnce
  by_cases h1 : readBit b s.reg = true
  · simp [h1]
  · by_cases h2 : s.reg.error = true
    · simp [h1, h2]
    · by_cases h3 : deadline ≤ s.now
      · simp [h1, h2, h3]
      · simp [h1, h2, h3]; omega

/-! ### The window (42_response_decoder.md R206) -/

/-- The refill writes only the window, its flag and the stream. -/
theorem refillWindow_cases (s : State) :
    refillWindow s = s ∨
    ∃ w0 w1 w2 w3 w4 w5 rest, s.bus.rspStream = w0 :: w1 :: w2 :: w3 :: w4 :: w5 :: rest ∧ s.reg.rspBufFull = false ∧
      refillWindow s =
        (s.setReg { s.reg with rspHi := windowHi w0 w1 w2 w3, rspLo := windowLo w4 w5, rspBufFull := true }).setBus
          { s.bus with rspStream := rest } := by
  unfold refillWindow
  split
  · rename_i w0 w1 w2 w3 w4 w5 rest h
    by_cases hf : s.reg.rspBufFull = true
    · exact .inl (by simp [hf])
    · exact .inr ⟨w0, w1, w2, w3, w4, w5, rest, h, by simpa using hf, by simp [hf]⟩
  · exact .inl rfl

end Sys2Proof.Machine
end

