-- ==== Sys2Proof/Laws/PerInstr.lean ====
section
/-! SUPPORT. Per-instruction families: what holds of every constructor of `Instr`, one lemma each. -/

namespace Sys2Proof.Laws.HeadWord

/-- The number at the head of an operation's bytes: the nine-bit key of format `MMIO`, the dispatch key of format `REQ`,
the operation id of format `SEQ` (30_encoding.md R139 to R141). -/
def headNumber : Format → List Byte → Nat
  | .mmio, b0 :: b1 :: _ => b0.toNat + 256 * b1.toNat
  | .mmio, _ => 0
  | _, b0 :: _ => b0.toNat
  | _, [] => 0

/-- The key at the head of a register access. -/
theorem headNumber_mmio (k : Nat) (r : List Byte) (h : k < 65536) : headNumber .mmio (putNat 2 k ++ r) = k := by
  simp only [putNat, List.cons_append, headNumber, BitVec.toNat_ofNat]
  omega

/-- The id at the head of an operation of format `SEQ`. -/
theorem headNumber_seq (k : Nat) (r : List Byte) (h : k < 256) : headNumber .seq (putNat 1 k ++ r) = k := by
  simp only [putNat, List.cons_append, headNumber, BitVec.toNat_ofNat]
  omega

/-- The mask and the match of each row of spec/opcode_table.json. -/
def tableRow : Instr → Nat × Nat
  | .rdCmdbuf => (0x1FF, 0x0)
  | .wrCmdbuf _ => (0x1FF, 0x100)
  | .rdCmdargLo => (0x1FF, 0x4)
  | .wrCmdargLo _ => (0x1FF, 0x104)
  | .rdRspbufHi => (0x1FF, 0x8)
  | .wrRspbufHi _ => (0x1FF, 0x108)
  | .rdRspbufLo => (0x1FF, 0xC)
  | .wrRspbufLo _ => (0x1FF, 0x10C)
  | .rdConfig => (0x1FF, 0x10)
  | .wrConfig _ => (0x1FF, 0x110)
  | .rdCtrl => (0x1FF, 0x14)
  | .wrCtrl _ => (0x1FF, 0x114)
  | .rdInt => (0x1FF, 0x18)
  | .wrInt _ => (0x1FF, 0x118)
  | .rdState => (0x1FF, 0x1C)
  | .wrState _ => (0x1FF, 0x11C)
  | .rdStatus => (0x1FF, 0x20)
  | .wrStatus _ => (0x1FF, 0x120)
  | .rdTiming => (0x1FF, 0x24)
  | .wrTiming _ => (0x1FF, 0x124)
  | .rdClkcfg => (0x1FF, 0x28)
  | .wrClkcfg _ => (0x1FF, 0x128)
  | .rdBlksize => (0x1FF, 0x2C)
  | .wrBlksize _ => (0x1FF, 0x12C)
  | .rdBlkcnt => (0x1FF, 0x30)
  | .wrBlkcnt _ => (0x1FF, 0x130)
  | .rdDataTx => (0x1FF, 0x34)
  | .wrDataTx _ => (0x1FF, 0x134)
  | .rdDataRx => (0x1FF, 0x38)
  | .wrDataRx _ => (0x1FF, 0x138)
  | .rdDmaBase0 => (0x1FF, 0x40)
  | .wrDmaBase0 _ => (0x1FF, 0x140)
  | .rdDmaSize0 => (0x1FF, 0x44)
  | .wrDmaSize0 _ => (0x1FF, 0x144)
  | .rdDmaBase1 => (0x1FF, 0x48)
  | .wrDmaBase1 _ => (0x1FF, 0x148)
  | .rdDmaSize1 => (0x1FF, 0x4C)
  | .wrDmaSize1 _ => (0x1FF, 0x14C)
  | .rdDmaBase2 => (0x1FF, 0x50)
  | .wrDmaBase2 _ => (0x1FF, 0x150)
  | .rdDmaSize2 => (0x1FF, 0x54)
  | .wrDmaSize2 _ => (0x1FF, 0x154)
  | .rdDmaBase3 => (0x1FF, 0x58)
  | .wrDmaBase3 _ => (0x1FF, 0x158)
  | .rdDmaSize3 => (0x1FF, 0x5C)
  | .wrDmaSize3 _ => (0x1FF, 0x15C)
  | .rdDmaBase4 => (0x1FF, 0x60)
  | .wrDmaBase4 _ => (0x1FF, 0x160)
  | .rdDmaSize4 => (0x1FF, 0x64)
  | .wrDmaSize4 _ => (0x1FF, 0x164)
  | .rdDmaBase5 => (0x1FF, 0x68)
  | .wrDmaBase5 _ => (0x1FF, 0x168)
  | .rdDmaSize5 => (0x1FF, 0x6C)
  | .wrDmaSize5 _ => (0x1FF, 0x16C)
  | .rdDmaBase6 => (0x1FF, 0x70)
  | .wrDmaBase6 _ => (0x1FF, 0x170)
  | .rdDmaSize6 => (0x1FF, 0x74)
  | .wrDmaSize6 _ => (0x1FF, 0x174)
  | .rdDmaBase7 => (0x1FF, 0x78)
  | .wrDmaBase7 _ => (0x1FF, 0x178)
  | .rdDmaSize7 => (0x1FF, 0x7C)
  | .wrDmaSize7 _ => (0x1FF, 0x17C)
  | .submitR136 _ => (0x70, 0x40)
  | .submitDataPio _ => (0x14, 0x10)
  | .submitDataDmaIrqCmd _ => (0x16, 0x16)
  | .submitDataDmaIrqThr _ => (0x17, 0x15)
  | .submitDataDmaPoll _ => (0x17, 0x14)
  | .submitNodataIrq _ => (0x12, 0x2)
  | .submitNodataPoll _ => (0x12, 0x0)
  | .fieldGet _ _ _ => (0xFF, 0x1)
  | .fieldSet _ _ _ _ => (0xFF, 0x2)
  | .regRd _ => (0xFF, 0x3)
  | .regWr _ _ => (0xFF, 0x4)
  | .regWrMasked _ _ => (0xFF, 0x5)
  | .cmdEncode _ _ _ _ => (0xFF, 0x10)
  | .rspNone _ => (0xFF, 0x18)
  | .rspGet48 _ => (0xFF, 0x19)
  | .rspGet136 _ => (0xFF, 0x1A)
  | .dataCfg => (0xFF, 0x20)
  | .dataCfgDma => (0xFF, 0x21)
  | .dataCfgPio => (0xFF, 0x22)
  | .pioXfer => (0xFF, 0x28)
  | .pioWrWord _ _ => (0xFF, 0x29)
  | .pioRdWord _ _ => (0xFF, 0x2A)
  | .submit _ => (0xFF, 0x30)
  | .finishMapfail => (0xFF, 0x37)
  | .trigger _ => (0xFF, 0x38)
  | .finish => (0xFF, 0x39)
  | .stopIssue => (0xFF, 0x3A)
  | .notify _ => (0xFF, 0x3B)
  | .waitUntil _ => (0xFF, 0x40)
  | .waitFinish => (0xFF, 0x41)
  | .waitRspFull => (0xFF, 0x42)
  | .waitTxEmpty => (0xFF, 0x43)
  | .waitRxFull => (0xFF, 0x44)
  | .checkError => (0xFF, 0x48)
  | .delayBump _ => (0xFF, 0x49)
  | .swReset => (0xFF, 0x4A)
  | .timingWriteback => (0xFF, 0x4B)
  | .irqEntry => (0xFF, 0x50)
  | .irqCmdDone => (0xFF, 0x51)
  | .irqCard => (0xFF, 0x52)
  | .deferredFinish => (0xFF, 0x53)
  | .setClock _ => (0xFF, 0x60)
  | .setTimingMode _ _ => (0xFF, 0x61)
  | .timingProgram => (0xFF, 0x62)
  | .setBusWidth _ => (0xFF, 0x63)
  | .setPower _ => (0xFF, 0x64)
  | .cardDetect => (0xFF, 0x65)
  | .voltageSwitch _ => (0xFF, 0x66)
  | .attach _ _ => (0xFF, 0x67)
  | .detach => (0xFF, 0x68)
  | .bTrigger => (0xFF, 0x70)
  | .bRsp _ => (0xFF, 0x71)
  | .bDataDma _ => (0xFF, 0x72)
  | .bDataPio _ => (0xFF, 0x73)
  | .bEnd _ => (0xFF, 0x74)
  | .bCardIrq => (0xFF, 0x75)
  | .bSwReset => (0xFF, 0x76)

/-- The bytes of a well-formed instruction begin with a word of its row of the opcode table. -/
def Statement (i : Instr) : Prop :=
  i.wf = true → headNumber (formatOf i) (encode i) &&& (tableRow i).1 = (tableRow i).2

theorem rdCmdbuf : Statement .rdCmdbuf := fun _ => rfl
theorem wrCmdbuf (w : Word) : Statement (.wrCmdbuf w) := fun _ => congrArg (· &&& 0x1FF) (headNumber_mmio 0x100 _ (by decide))
theorem rdCmdargLo : Statement .rdCmdargLo := fun _ => rfl
theorem wrCmdargLo (w : Word) : Statement (.wrCmdargLo w) := fun _ => congrArg (· &&& 0x1FF) (headNumber_mmio 0x104 _ (by decide))
theorem rdRspbufHi : Statement .rdRspbufHi := fun _ => rfl
theorem wrRspbufHi (w : Word) : Statement (.wrRspbufHi w) := fun _ => congrArg (· &&& 0x1FF) (headNumber_mmio 0x108 _ (by decide))
theorem rdRspbufLo : Statement .rdRspbufLo := fun _ => rfl
theorem wrRspbufLo (w : Word) : Statement (.wrRspbufLo w) := fun _ => congrArg (· &&& 0x1FF) (headNumber_mmio 0x10C _ (by decide))
theorem rdConfig : Statement .rdConfig := fun _ => rfl
theorem wrConfig (w : Word) : Statement (.wrConfig w) := fun _ => congrArg (· &&& 0x1FF) (headNumber_mmio 0x110 _ (by decide))
theorem rdCtrl : Statement .rdCtrl := fun _ => rfl
theorem wrCtrl (w : Word) : Statement (.wrCtrl w) := fun _ => congrArg (· &&& 0x1FF) (headNumber_mmio 0x114 _ (by decide))
theorem rdInt : Statement .rdInt := fun _ => rfl
theorem wrInt (w : Word) : Statement (.wrInt w) := fun _ => congrArg (· &&& 0x1FF) (headNumber_mmio 0x118 _ (by decide))
theorem rdState : Statement .rdState := fun _ => rfl
theorem wrState (w : Word) : Statement (.wrState w) := fun _ => congrArg (· &&& 0x1FF) (headNumber_mmio 0x11C _ (by decide))
theorem rdStatus : Statement .rdStatus := fun _ => rfl
theorem wrStatus (w : Word) : Statement (.wrStatus w) := fun _ => congrArg (· &&& 0x1FF) (headNumber_mmio 0x120 _ (by decide))
theorem rdTiming : Statement .rdTiming := fun _ => rfl
theorem wrTiming (w : Word) : Statement (.wrTiming w) := fun _ => congrArg (· &&& 0x1FF) (headNumber_mmio 0x124 _ (by decide))
theorem rdClkcfg : Statement .rdClkcfg := fun _ => rfl
theorem wrClkcfg (w : Word) : Statement (.wrClkcfg w) := fun _ => congrArg (· &&& 0x1FF) (headNumber_mmio 0x128 _ (by decide))
theorem rdBlksize : Statement .rdBlksize := fun _ => rfl
theorem wrBlksize (w : Word) : Statement (.wrBlksize w) := fun _ => congrArg (· &&& 0x1FF) (headNumber_mmio 0x12C _ (by decide))
theorem rdBlkcnt : Statement .rdBlkcnt := fun _ => rfl
theorem wrBlkcnt (w : Word) : Statement (.wrBlkcnt w) := fun _ => congrArg (· &&& 0x1FF) (headNumber_mmio 0x130 _ (by decide))
theorem rdDataTx : Statement .rdDataTx := fun _ => rfl
theorem wrDataTx (w : Word) : Statement (.wrDataTx w) := fun _ => congrArg (· &&& 0x1FF) (headNumber_mmio 0x134 _ (by decide))
theorem rdDataRx : Statement .rdDataRx := fun _ => rfl
theorem wrDataRx (w : Word) : Statement (.wrDataRx w) := fun _ => congrArg (· &&& 0x1FF) (headNumber_mmio 0x138 _ (by decide))
theorem rdDmaBase0 : Statement .rdDmaBase0 := fun _ => rfl
theorem wrDmaBase0 (w : Word) : Statement (.wrDmaBase0 w) := fun _ => congrArg (· &&& 0x1FF) (headNumber_mmio 0x140 _ (by decide))
theorem rdDmaSize0 : Statement .rdDmaSize0 := fun _ => rfl
theorem wrDmaSize0 (w : Word) : Statement (.wrDmaSize0 w) := fun _ => congrArg (· &&& 0x1FF) (headNumber_mmio 0x144 _ (by decide))
theorem rdDmaBase1 : Statement .rdDmaBase1 := fun _ => rfl
theorem wrDmaBase1 (w : Word) : Statement (.wrDmaBase1 w) := fun _ => congrArg (· &&& 0x1FF) (headNumber_mmio 0x148 _ (by decide))
theorem rdDmaSize1 : Statement .rdDmaSize1 := fun _ => rfl
theorem wrDmaSize1 (w : Word) : Statement (.wrDmaSize1 w) := fun _ => congrArg (· &&& 0x1FF) (headNumber_mmio 0x14C _ (by decide))
theorem rdDmaBase2 : Statement .rdDmaBase2 := fun _ => rfl
theorem wrDmaBase2 (w : Word) : Statement (.wrDmaBase2 w) := fun _ => congrArg (· &&& 0x1FF) (headNumber_mmio 0x150 _ (by decide))
theorem rdDmaSize2 : Statement .rdDmaSize2 := fun _ => rfl
theorem wrDmaSize2 (w : Word) : Statement (.wrDmaSize2 w) := fun _ => congrArg (· &&& 0x1FF) (headNumber_mmio 0x154 _ (by decide))
theorem rdDmaBase3 : Statement .rdDmaBase3 := fun _ => rfl
theorem wrDmaBase3 (w : Word) : Statement (.wrDmaBase3 w) := fun _ => congrArg (· &&& 0x1FF) (headNumber_mmio 0x158 _ (by decide))
theorem rdDmaSize3 : Statement .rdDmaSize3 := fun _ => rfl
theorem wrDmaSize3 (w : Word) : Statement (.wrDmaSize3 w) := fun _ => congrArg (· &&& 0x1FF) (headNumber_mmio 0x15C _ (by decide))
theorem rdDmaBase4 : Statement .rdDmaBase4 := fun _ => rfl
theorem wrDmaBase4 (w : Word) : Statement (.wrDmaBase4 w) := fun _ => congrArg (· &&& 0x1FF) (headNumber_mmio 0x160 _ (by decide))
theorem rdDmaSize4 : Statement .rdDmaSize4 := fun _ => rfl
theorem wrDmaSize4 (w : Word) : Statement (.wrDmaSize4 w) := fun _ => congrArg (· &&& 0x1FF) (headNumber_mmio 0x164 _ (by decide))
theorem rdDmaBase5 : Statement .rdDmaBase5 := fun _ => rfl
theorem wrDmaBase5 (w : Word) : Statement (.wrDmaBase5 w) := fun _ => congrArg (· &&& 0x1FF) (headNumber_mmio 0x168 _ (by decide))
theorem rdDmaSize5 : Statement .rdDmaSize5 := fun _ => rfl
theorem wrDmaSize5 (w : Word) : Statement (.wrDmaSize5 w) := fun _ => congrArg (· &&& 0x1FF) (headNumber_mmio 0x16C _ (by decide))
theorem rdDmaBase6 : Statement .rdDmaBase6 := fun _ => rfl
theorem wrDmaBase6 (w : Word) : Statement (.wrDmaBase6 w) := fun _ => congrArg (· &&& 0x1FF) (headNumber_mmio 0x170 _ (by decide))
theorem rdDmaSize6 : Statement .rdDmaSize6 := fun _ => rfl
theorem wrDmaSize6 (w : Word) : Statement (.wrDmaSize6 w) := fun _ => congrArg (· &&& 0x1FF) (headNumber_mmio 0x174 _ (by decide))
theorem rdDmaBase7 : Statement .rdDmaBase7 := fun _ => rfl
theorem wrDmaBase7 (w : Word) : Statement (.wrDmaBase7 w) := fun _ => congrArg (· &&& 0x1FF) (headNumber_mmio 0x178 _ (by decide))
theorem rdDmaSize7 : Statement .rdDmaSize7 := fun _ => rfl
theorem wrDmaSize7 (w : Word) : Statement (.wrDmaSize7 w) := fun _ => congrArg (· &&& 0x1FF) (headNumber_mmio 0x17C _ (by decide))
theorem submitR136 (k : BitVec 7) : Statement (.submitR136 k) := by
  unfold Statement; revert k; decide
theorem submitDataPio (k : BitVec 7) : Statement (.submitDataPio k) := by
  unfold Statement; revert k; decide
theorem submitDataDmaIrqCmd (k : BitVec 7) : Statement (.submitDataDmaIrqCmd k) := by
  unfold Statement; revert k; decide
theorem submitDataDmaIrqThr (k : BitVec 7) : Statement (.submitDataDmaIrqThr k) := by
  unfold Statement; revert k; decide
theorem submitDataDmaPoll (k : BitVec 7) : Statement (.submitDataDmaPoll k) := by
  unfold Statement; revert k; decide
theorem submitNodataIrq (k : BitVec 7) : Statement (.submitNodataIrq k) := by
  unfold Statement; revert k; decide
theorem submitNodataPoll (k : BitVec 7) : Statement (.submitNodataPoll k) := by
  unfold Statement; revert k; decide
theorem fieldGet (w : Word) (lo : Byte) (n : Byte) : Statement (.fieldGet w lo n) := fun _ => congrArg (· &&& 0xFF) (headNumber_seq 0x1 _ (by decide))
theorem fieldSet (w : Word) (lo : Byte) (n : Byte) (v : Word) : Statement (.fieldSet w lo n v) := fun _ => congrArg (· &&& 0xFF) (headNumber_seq 0x2 _ (by decide))
theorem regRd (r : Reg) : Statement (.regRd r) := fun _ => congrArg (· &&& 0xFF) (headNumber_seq 0x3 _ (by decide))
theorem regWr (r : PlainReg) (w : Word) : Statement (.regWr r w) := fun _ => congrArg (· &&& 0xFF) (headNumber_seq 0x4 _ (by decide))
theorem regWrMasked (m : MaskedReg) (w : Word) : Statement (.regWrMasked m w) := fun _ => congrArg (· &&& 0xFF) (headNumber_seq 0x5 _ (by decide))
theorem cmdEncode (opcode : Byte) (arg : Word) (rsp : RspShape) (hasData : Bool) : Statement (.cmdEncode opcode arg rsp hasData) := fun _ => congrArg (· &&& 0xFF) (headNumber_seq 0x10 _ (by decide))
theorem rspNone (c : CmdSel) : Statement (.rspNone c) := fun _ => congrArg (· &&& 0xFF) (headNumber_seq 0x18 _ (by decide))
theorem rspGet48 (c : CmdSel) : Statement (.rspGet48 c) := fun _ => congrArg (· &&& 0xFF) (headNumber_seq 0x19 _ (by decide))
theorem rspGet136 (c : CmdSel) : Statement (.rspGet136 c) := fun _ => congrArg (· &&& 0xFF) (headNumber_seq 0x1A _ (by decide))
theorem dataCfg : Statement .dataCfg := fun _ => rfl
theorem dataCfgDma : Statement .dataCfgDma := fun _ => rfl
theorem dataCfgPio : Statement .dataCfgPio := fun _ => rfl
theorem pioXfer : Statement .pioXfer := fun _ => rfl
theorem pioWrWord (buf : Word) (off : Nat) : Statement (.pioWrWord buf off) := fun _ => congrArg (· &&& 0xFF) (headNumber_seq 0x29 _ (by decide))
theorem pioRdWord (buf : Word) (off : Nat) : Statement (.pioRdWord buf off) := fun _ => congrArg (· &&& 0xFF) (headNumber_seq 0x2A _ (by decide))
theorem submit (req : Request) : Statement (.submit req) := fun _ => congrArg (· &&& 0xFF) (headNumber_seq 0x30 _ (by decide))
theorem finishMapfail : Statement .finishMapfail := fun _ => rfl
theorem trigger (v : WaitSel) : Statement (.trigger v) := fun _ => congrArg (· &&& 0xFF) (headNumber_seq 0x38 _ (by decide))
theorem finish : Statement .finish := fun _ => rfl
theorem stopIssue : Statement .stopIssue := fun _ => rfl
theorem notify (req : Request) : Statement (.notify req) := fun _ => congrArg (· &&& 0xFF) (headNumber_seq 0x3B _ (by decide))
theorem waitUntil (b : StatusBit) : Statement (.waitUntil b) := fun _ => congrArg (· &&& 0xFF) (headNumber_seq 0x40 _ (by decide))
theorem waitFinish : Statement .waitFinish := fun _ => rfl
theorem waitRspFull : Statement .waitRspFull := fun _ => rfl
theorem waitTxEmpty : Statement .waitTxEmpty := fun _ => rfl
theorem waitRxFull : Statement .waitRxFull := fun _ => rfl
theorem checkError : Statement .checkError := fun _ => rfl
theorem delayBump (x : DelayName) : Statement (.delayBump x) := fun _ => congrArg (· &&& 0xFF) (headNumber_seq 0x49 _ (by decide))
theorem swReset : Statement .swReset := fun _ => rfl
theorem timingWriteback : Statement .timingWriteback := fun _ => rfl
theorem irqEntry : Statement .irqEntry := fun _ => rfl
theorem irqCmdDone : Statement .irqCmdDone := fun _ => rfl
theorem irqCard : Statement .irqCard := fun _ => rfl
theorem deferredFinish : Statement .deferredFinish := fun _ => rfl
theorem setClock (rate : Word) : Statement (.setClock rate) := fun _ => congrArg (· &&& 0xFF) (headNumber_seq 0x60 _ (by decide))
theorem setTimingMode (mode : Byte) (ddr : Bool) : Statement (.setTimingMode mode ddr) := fun _ => congrArg (· &&& 0xFF) (headNumber_seq 0x61 _ (by decide))
theorem timingProgram : Statement .timingProgram := fun _ => rfl
theorem setBusWidth (width : Byte) : Statement (.setBusWidth width) := fun _ => congrArg (· &&& 0xFF) (headNumber_seq 0x63 _ (by decide))
theorem setPower (power : Byte) : Statement (.setPower power) := fun _ => congrArg (· &&& 0xFF) (headNumber_seq 0x64 _ (by decide))
theorem cardDetect : Statement .cardDetect := fun _ => rfl
theorem voltageSwitch (volt : Byte) : Statement (.voltageSwitch volt) := fun _ => congrArg (· &&& 0xFF) (headNumber_seq 0x66 _ (by decide))
theorem attach (base : Word) (srcClk : Word) : Statement (.attach base srcClk) := fun _ => congrArg (· &&& 0xFF) (headNumber_seq 0x67 _ (by decide))
theorem detach : Statement .detach := fun _ => rfl
theorem bTrigger : Statement .bTrigger := fun _ => rfl
theorem bRsp (a : RspAnswer) : Statement (.bRsp a) := fun _ => congrArg (· &&& 0xFF) (headNumber_seq 0x71 _ (by decide))
theorem bDataDma (a : DmaAnswer) : Statement (.bDataDma a) := fun _ => congrArg (· &&& 0xFF) (headNumber_seq 0x72 _ (by decide))
theorem bDataPio (a : PioAnswer) : Statement (.bDataPio a) := fun _ => congrArg (· &&& 0xFF) (headNumber_seq 0x73 _ (by decide))
theorem bEnd (a : EndAnswer) : Statement (.bEnd a) := fun _ => congrArg (· &&& 0xFF) (headNumber_seq 0x74 _ (by decide))
theorem bCardIrq : Statement .bCardIrq := fun _ => rfl
theorem bSwReset : Statement .bSwReset := fun _ => rfl

end Sys2Proof.Laws.HeadWord
end

