-- ==== Sys2Proof/Laws/Step.lean ====
section
/-! SUPPORT. What starting an operation and taking a turn can do, said once; and the place of a register in format
`MMIO`. -/

namespace Sys2Proof.Machine

/-! ### Field writes of plain registers -/

/-- A field that is its register's only one is written whole (40_register_access.md R166). -/
theorem writeField_whole {r : PlainReg} (h : hasOneField r = true) (f : Field) (v : Word) (s : State) :
    writeField r f v s = regWrite r (v <<< f.lo) s := by
  simp [writeField, h]

/-- A field beside others is written by one read and one write (R166). -/
theorem writeField_part {r : PlainReg} (h : hasOneField r = false) (hm : regMapped s (.plain r) = true) (f : Field)
    (v : Word) : writeField r f v s =
      regWrite r (fieldSetWord (readReg (.plain r) s).1 f.lo f.width v) (readReg (.plain r) s).2 := by
  simp [writeField, h, hm]

/-! ### The bytes of a read that have arrived (20_memory.md R90) -/

@[simp] theorem noteArrival_reg (s : State) : (noteArrival s).reg = s.reg := rfl
@[simp] theorem noteArrival_host (s : State) : (noteArrival s).host = s.host := rfl
@[simp] theorem noteArrival_dmaMem (s : State) : (noteArrival s).dmaMem = s.dmaMem := rfl
@[simp] theorem noteArrival_bufMem (s : State) : (noteArrival s).bufMem = s.bufMem := rfl
@[simp] theorem noteArrival_moved (s : State) : (noteArrival s).bus.moved = s.bus.moved := rfl
@[simp] theorem noteArrival_arrived (s : State) : (noteArrival s).bus.arrived = max s.bus.arrived (s.bus.moved + 1) := rfl

/-! ### Who runs what -/

/-- A write of `CTRL` plays one of two parts. -/
theorem ctrlRole_cases (w : Word) : ctrlRole w = .trigger ∨ ctrlRole w = .access := by
  unfold ctrlRole; split <;> simp

/-- A masked write is a register access, and may trigger. -/
theorem maskedRole_cases (m : MaskedReg) (w : Word) : maskedRole m w = .trigger ∨ maskedRole m w = .access := by
  cases m <;> simp [maskedRole, ctrlRole_cases]

/-- Every context but the engine reads and writes every register (60_exceptions.md R466). -/
theorem access_by_every_context {a : Agent} {i : Instr} (h : roleOf i = .access ∨ roleOf i = .trigger) (ha : a ≠ .b) :
    agentMayRun a i = true := by
  rcases h with h | h <;> cases a <;>
    simp_all [agentMayRun, interruptMayRun, deferredMayRun, engineOnly, interruptOnly, deferredOnly]

/-- The operations of format `MMIO` are register accesses. -/
theorem roleOf_of_access {i : Instr} {x : Access} (h : i.access = some x) :
    roleOf i = .access ∨ roleOf i = .trigger := by
  cases i with
  | wrCtrl w => exact (ctrlRole_cases w).symm
  | _ => first | exact .inl rfl | exact absurd h (by simp [Instr.access])

/-- The engine's steps are the engine's alone. -/
theorem engineOnly_alone {a : Agent} {i : Instr} (h : engineOnly i = true) (ha : a ≠ .b) : agentMayRun a i = false := by
  have h : roleOf i = .engine := by simpa [engineOnly] using h
  cases a <;> simp_all [agentMayRun, interruptMayRun, deferredMayRun, engineOnly]

/-- The interrupt unit and the deferred unit start no submission, no entry point, and nothing that prepares a transaction
(48_interrupt_deferred.md R378, 60_exceptions.md R466). -/
theorem units_start_no_transaction {i : Instr} (h : submissionOnly i = true ∨ roleOf i = .preparing) :
    agentMayRun .i i = false ∧ agentMayRun .w i = false := by
  simp only [submissionOnly, Bool.or_eq_true, beq_iff_eq] at h
  rcases h with ((h | h) | h) | h <;> simp [agentMayRun, interruptMayRun, deferredMayRun, h]

/-- The interrupt unit starts no bounded wait and no `STOP_ISSUE` (60_exceptions.md R466). -/
theorem interrupt_starts_no_wait {i : Instr} (h : roleOf i = .waiting ∨ roleOf i = .stop) :
    agentMayRun .i i = false := by
  rcases h with h | h <;> simp [agentMayRun, interruptMayRun, h]

/-- The part of `FINISH` is its own. -/
theorem roleOf_finish_iff (i : Instr) : roleOf i = .finish ↔ i = .finish := by
  refine ⟨?_, fun h => h ▸ rfl⟩
  cases i with
  | wrCtrl w => intro h; rcases ctrlRole_cases w with k | k <;> exact absurd (k.symm.trans h) (by decide)
  | regWrMasked m w => intro h; rcases maskedRole_cases m w with k | k <;> exact absurd (k.symm.trans h) (by decide)
  | _ => first | exact fun _ => rfl | exact fun h => absurd h (by simp [roleOf])

/-- The part of `STOP_ISSUE` is its own. -/
theorem roleOf_stopIssue_iff (i : Instr) : roleOf i = .stop ↔ i = .stopIssue := by
  refine ⟨?_, fun h => h ▸ rfl⟩
  cases i with
  | wrCtrl w => intro h; rcases ctrlRole_cases w with k | k <;> exact absurd (k.symm.trans h) (by decide)
  | regWrMasked m w => intro h; rcases maskedRole_cases m w with k | k <;> exact absurd (k.symm.trans h) (by decide)
  | _ => first | exact fun _ => rfl | exact fun h => absurd h (by simp [roleOf])

/-- The part of `IRQ_ENTRY` is its own. -/
theorem roleOf_irqEntry_iff (i : Instr) : roleOf i = .irqEntry ↔ i = .irqEntry := by
  refine ⟨?_, fun h => h ▸ rfl⟩
  cases i with
  | wrCtrl w => intro h; rcases ctrlRole_cases w with k | k <;> exact absurd (k.symm.trans h) (by decide)
  | regWrMasked m w => intro h; rcases maskedRole_cases m w with k | k <;> exact absurd (k.symm.trans h) (by decide)
  | _ => first | exact fun _ => rfl | exact fun h => absurd h (by simp [roleOf])

/-- The test for `FINISH`. -/
theorem isFinish_iff (i : Instr) : isFinish i = true ↔ i = .finish := by simp [isFinish, roleOf_finish_iff]

/-- The test for `STOP_ISSUE`. -/
theorem isStopIssue_iff (i : Instr) : isStopIssue i = true ↔ i = .stopIssue := by
  simp [isStopIssue, roleOf_stopIssue_iff]

/-- An agent must wait when it stands inside an operation. -/
theorem mustWait_iff (a : Agent) (i : Instr) (s : State) :
    mustWait a i s = true ↔ (getCtx s a).stack ≠ [] ∧ i ≠ .irqEntry := by
  simp [mustWait, roleOf_irqEntry_iff]

/-- The Request of a `SUBMIT`. -/
theorem submittedRequest_iff (i : Instr) (r : Request) : submittedRequest i = some r ↔ i = .submit r := by
  unfold submittedRequest; split <;> simp_all

/-- The Request of a `NOTIFY`. -/
theorem notifiedRequest_iff (i : Instr) (r : Request) : notifiedRequest i = some r ↔ i = .notify r := by
  unfold notifiedRequest; split <;> simp_all

/-- A cancel request meets `SUBMIT` only. -/
theorem cancelMeets_other {a : Agent} {i : Instr} (s : State) (h : ∀ r, i ≠ .submit r) : cancelMeets a i s = none := by
  have : submittedRequest i = none :=
    Option.eq_none_iff_forall_ne_some.2 fun r hr => h r ((submittedRequest_iff i r).1 hr)
  cases a <;> simp [cancelMeets, this]

/-- The Request a frame stands for (70_reset_and_hazards.md R521). -/
theorem frameRequest_iff (f : Frame) (r : Request) :
    frameRequest f = some r ↔ f = .blocked (.submit r) ∨ f = .call (.notify r) := by
  cases f <;> simp [frameRequest, submittedRequest_iff, notifiedRequest_iff]

/-! ### What stands on the stacks -/

/-- An entry inside a list. -/
theorem entryAt_lt {α : Type} (d : α) (l : List α) (n : Nat) (h : n < l.length) : entryAt d l n = l[n] := by
  induction l generalizing n with
  | nil => exact absurd h (Nat.not_lt_zero n)
  | cons x xs ih => cases n with
    | zero => rfl
    | succ n => exact ih n (Nat.lt_of_succ_lt_succ h)

/-- An entry behind a list. -/
theorem entryAt_ge {α : Type} (d : α) (l : List α) (n : Nat) (h : l.length ≤ n) : entryAt d l n = d := by
  induction l generalizing n with
  | nil => cases n <;> rfl
  | cons x xs ih => cases n with
    | zero => exact absurd h (Nat.not_succ_le_zero _)
    | succ n => exact ih n (Nat.le_of_succ_le_succ h)

/-- A frame on the stack of a listed context is a frame on the stack of an agent. -/
theorem exists_on_stack_iff (s : State) (p : Frame → Prop) :
    (∃ c ∈ s.p ++ [s.i, s.w], ∃ f ∈ c.stack, p f) ↔ ∃ a, ∃ f ∈ (getCtx s a).stack, p f := by
  constructor
  · rintro ⟨c, hc, f, hf, h⟩
    simp only [List.mem_append, List.mem_cons, List.not_mem_nil, or_false] at hc
    rcases hc with hc | rfl | rfl
    · obtain ⟨n, hn, rfl⟩ := List.getElem_of_mem hc
      exact ⟨.p n, f, by rwa [getCtx, ctxAt, entryAt_lt _ _ _ hn], h⟩
    · exact ⟨.i, f, hf, h⟩
    · exact ⟨.w, f, hf, h⟩
  · rintro ⟨a, f, hf, h⟩
    cases a with
    | p n =>
      rw [getCtx, ctxAt] at hf
      rcases Nat.lt_or_ge n s.p.length with hn | hn
      · rw [entryAt_lt _ _ _ hn] at hf
        exact ⟨s.p[n], List.mem_append_left _ (List.getElem_mem hn), f, hf, h⟩
      · rw [entryAt_ge _ _ _ hn] at hf
        exact absurd hf List.not_mem_nil
    | i => exact ⟨s.i, by simp, f, hf, h⟩
    | w => exact ⟨s.w, by simp, f, hf, h⟩
    | b => exact absurd hf List.not_mem_nil

/-! ### Running an operation -/

/-- The acting agent may run `i` now: what `runCall` asks. -/
def MayCall (i : Instr) (s : State) : Prop :=
  (s.actor = .i → isStopIssue i = false) ∧
    (isFinish i = true → finishGuarded s.host.tc = true ∨ leavesWaiting s = true)

/-- An operation that may run is run. -/
theorem runCall_eq {run : Instr → State → Res} {i : Instr} {s : State} (h : MayCall i s) :
    runCall run i s = run i s := by
  obtain ⟨h1, h2⟩ := h
  unfold runCall
  rw [if_neg (by rintro ⟨a, b⟩; simp [h1 a] at b), if_neg (by rintro ⟨a, b, c⟩; exact (h2 a).elim b c)]

/-- All a call can do. -/
theorem runCall_cases (run : Instr → State → Res) (i : Instr) (s : State) :
    runCall run i s = .refused .wrongAgent ∨
    (isFinish i = true ∧ leavesWaiting s = false ∧ runCall run i s = .next s) ∨
    (MayCall i s ∧ runCall run i s = run i s) := by
  unfold runCall
  by_cases h1 : s.actor = .i ∧ isStopIssue i = true
  · exact .inl (if_pos h1)
  · rw [if_neg h1]
    by_cases h2 : isFinish i = true ∧ ¬ finishGuarded s.host.tc = true ∧ ¬ leavesWaiting s = true
    · exact .inr (.inl ⟨h2.1, by simpa using h2.2.2, if_pos h2⟩)
    · refine .inr (.inr ⟨⟨fun a => by simpa using fun b => h1 ⟨a, b⟩, fun a => ?_⟩, if_neg h2⟩)
      by_contra b
      rw [not_or] at b
      exact h2 ⟨a, b⟩

/-- What is started by itself while no Request waits: no inline operation with a Request outstanding, and no `FINISH` that
would claim one. -/
theorem notStarted_eq_false_iff (i : Instr) (tc : TcState) :
    notStarted i tc = false ↔ (inlineOnly i = true → tc = .idle) ∧ (i = .finish → tc = .idle ∨ tc = .finishing) := by
  cases tc <;> simp [notStarted, finishGuarded, isFinish_iff]

/-- The completion arm is due, or is not asked. -/
theorem armNotDue_eq_false_iff (i : Instr) (s : State) :
    armNotDue i s = false ↔
      (i = .irqCmdDone → s.host.tc = .waitingInterrupt →
        s.host.cmpTaken = true ∨ (s.reg.cmpEn = true ∧ s.reg.cmpPend = true)) := by
  unfold armNotDue
  by_cases h1 : i = .irqCmdDone <;> by_cases h2 : s.host.tc = .waitingInterrupt <;> by_cases h3 : s.host.cmpTaken = true <;>
    simp [h1, h2, h3]

/-- A `FINISH` that is started by itself runs, to find that there is nothing to finish. -/
theorem mayCall_of_started {i : Instr} {s : State} (h : notStarted i s.host.tc = false)
    (hi : s.actor = .i → isStopIssue i = false) : MayCall i s :=
  ⟨hi, fun hf => .inl (by simpa [finishGuarded] using
    ((notStarted_eq_false_iff i s.host.tc).1 h).2 ((isFinish_iff i).1 hf))⟩

/-- All that starting an operation can do. -/
theorem startInstr_cases (run : Instr → State → Res) (a : Agent) (i : Instr) (s : State) :
    (∃ r, startInstr run a i s = .refused r) ∨
    (armNotDue i s = true ∧ startInstr run a i s = .next s) ∨
    (agentMayRun a i = true ∧ (s.host.attached = true ∨ isAttach i = true) ∧ mustWait a i s = false ∧
      notStarted i s.host.tc = false ∧ armNotDue i s = false ∧
      ((∃ tid, cancelMeets a i s = some tid ∧ startInstr run a i s = submitCancelled run tid i (s.setActor a)) ∨
        (cancelMeets a i s = none ∧ startInstr run a i s = runCall run i (s.setActor a)))) := by
  unfold startInstr
  split
  · exact .inl ⟨_, rfl⟩
  · split
    · exact .inl ⟨_, rfl⟩
    · split
      · exact .inl ⟨_, rfl⟩
      · split
        · exact .inl ⟨_, rfl⟩
        · split
          · rename_i h5
            exact .inr (.inl ⟨h5, rfl⟩)
          · rename_i h1 h2 h3 h4 h5
            refine .inr (.inr ⟨by simpa using h1, ?_, by simpa using h3, by simpa using h4, by simpa using h5, ?_⟩)
            · by_cases h : s.host.attached = true
              · exact .inl h
              · exact .inr (by by_contra k; exact h2 ⟨h, k⟩)
            · cases h : cancelMeets a i s with
              | none => exact .inr ⟨rfl, rfl⟩
              | some tid => exact .inl ⟨tid, rfl, rfl⟩

/-- An agent that may start an operation now, with no cancel request that meets it, runs it. -/
theorem startInstr_eq {run : Instr → State → Res} {a : Agent} {i : Instr} {s : State} (h1 : agentMayRun a i = true)
    (h2 : s.host.attached = true ∨ isAttach i = true) (h3 : mustWait a i s = false)
    (h4 : notStarted i s.host.tc = false) (h5 : armNotDue i s = false) (h6 : cancelMeets a i s = none) :
    startInstr run a i s = runCall run i (s.setActor a) := by
  unfold startInstr
  rw [if_neg (by simp [h1]), if_neg (by rintro ⟨x, y⟩; exact h2.elim x y), if_neg (by simp [h3]),
    if_neg (by simp [h4]), if_neg (by simp [h5]), h6]

/-- All a `SUBMIT` with a pending cancel request can do (45_transaction_controller.md R286). -/
theorem submitCancelled_cases (run : Instr → State → Res) (tid : Nat) (i : Instr) (s : State) :
    submitCancelled run tid i s =
      .next (((s.setCancels (s.cancels.erase tid)).setDraws (s.draws + 1)).emit (.submitAborted tid)) ∨
    (s.host.lock = .free ∧
      submitCancelled run tid i s = runCall run i ((s.setCancels (s.cancels.erase tid)).setDraws (s.draws + 1))) := by
  unfold submitCancelled cancelWins
  cases h : s.host.lock with
  | held => exact .inl (if_pos rfl)
  | free =>
    by_cases hc : Config.freeBool s.draws = true
    · exact .inl (if_pos hc)
    · exact .inr ⟨rfl, if_neg hc⟩

/-- A call that stands on the stack of agent I for a stop command is refused, whatever `run` is
(48_interrupt_deferred.md R378). -/
theorem runFrame_stopIssue_i (run : Instr → State → Res) (s : State) (h : s.actor = .i) :
    runFrame run (.call .stopIssue) s = .refused .wrongAgent := by
  simp [runFrame, runCall, h, isStopIssue, roleOf]

/-! ### The place of a register (00_scope.md R7 `OFF_<reg>`) -/

/-- The first element that meets a property no other element meets. -/
theorem find?_unique {α : Type} {p : α → Bool} {l : List α} {a : α} (ha : a ∈ l) (hp : p a = true)
    (hu : ∀ b ∈ l, p b = true → b = a) : l.find? p = some a := by
  induction l with
  | nil => simp at ha
  | cons b l ih =>
    by_cases hb : p b = true
    · rw [List.find?_cons_of_pos hb, hu b (by simp) hb]
    · rw [List.find?_cons_of_neg hb]
      refine ih ?_ fun c hc => hu c (by simp [hc])
      rcases List.mem_cons.1 ha with rfl | h
      · exact absurd hp hb
      · exact h

/-- In a legal configuration the register at a place is the one that was put there. -/
theorem refAt_offsetIn {c : Cfg} (h : c.legal = true) {ref : Nat} (hr : ref ∈ refOffsets) :
    c.refAt (offsetIn c.moved ref) = some ref := by
  have hn : (refOffsets.map (offsetIn c.moved)).Nodup := by
    simp only [Cfg.legal, Bool.and_eq_true, decide_eq_true_eq] at h
    exact h.1.1.1.1.1.1.1.1.1.1.1.1.1.1.2
  refine find?_unique hr (by simp) fun b hb hp => ?_
  exact List.inj_on_of_nodup_map hn hb hr (by simpa using hp)

/-- Where nothing has moved, each register stands at its offset of 30_encoding.md R121. -/
theorem refAt_unmoved {c : Cfg} (h : c.moved = []) {ref : Nat} (hr : ref ∈ refOffsets) : c.refAt ref = some ref := by
  refine find?_unique hr (by simp [h, offsetIn]) fun b _ hp => ?_
  simpa [h, offsetIn] using hp

end Sys2Proof.Machine
end

