-- ==== Sys2Proof/Tests/Slice0.lean ====
section
/-! SUPPORT. Tests. The words are written out from the encoding tables of 30_encoding.md, the expected results are those of
95_test_vectors.md; the witnesses show states that meet the hypotheses of the statements. -/

namespace Sys2Proof.Tests

open Sys2Proof.Machine

/-! ### Decoding: every row of spec/opcode_table.json -/

/-- The bytes decode to exactly this instruction. -/
def decodesTo (f : Format) (bytes : List Byte) (i : Instr) : Bool :=
  match decode f bytes with
  | .ok (j, []) => j == i
  | _ => false

/-- Every pair of bytes and instruction agrees. -/
def allDecode (f : Format) (rows : List (List Byte × Instr)) : Bool := rows.all fun r => decodesTo f r.1 r.2

/-- `A = off`, two bytes, the low one first (30_encoding.md R121, R141). -/
theorem test_decode_register_reads : allDecode .mmio [
    ([0x00, 0x00], .rdCmdbuf),
    ([0x04, 0x00], .rdCmdargLo),
    ([0x08, 0x00], .rdRspbufHi),
    ([0x0C, 0x00], .rdRspbufLo),
    ([0x10, 0x00], .rdConfig),
    ([0x14, 0x00], .rdCtrl),
    ([0x18, 0x00], .rdInt),
    ([0x1C, 0x00], .rdState),
    ([0x20, 0x00], .rdStatus),
    ([0x24, 0x00], .rdTiming),
    ([0x28, 0x00], .rdClkcfg),
    ([0x2C, 0x00], .rdBlksize),
    ([0x30, 0x00], .rdBlkcnt),
    ([0x34, 0x00], .rdDataTx),
    ([0x38, 0x00], .rdDataRx)] = true := by decide

/-- `A = 0x100 | off`, then the data word, its low byte first (R141). -/
theorem test_decode_register_writes : allDecode .mmio [
    ([0x00, 0x01, 0x78, 0x56, 0x34, 0x12], .wrCmdbuf 0x12345678),
    ([0x04, 0x01, 0x78, 0x56, 0x34, 0x12], .wrCmdargLo 0x12345678),
    ([0x08, 0x01, 0x78, 0x56, 0x34, 0x12], .wrRspbufHi 0x12345678),
    ([0x0C, 0x01, 0x78, 0x56, 0x34, 0x12], .wrRspbufLo 0x12345678),
    ([0x10, 0x01, 0x78, 0x56, 0x34, 0x12], .wrConfig 0x12345678),
    ([0x14, 0x01, 0x78, 0x56, 0x34, 0x12], .wrCtrl 0x12345678),
    ([0x18, 0x01, 0x78, 0x56, 0x34, 0x12], .wrInt 0x12345678),
    ([0x1C, 0x01, 0x78, 0x56, 0x34, 0x12], .wrState 0x12345678),
    ([0x20, 0x01, 0x78, 0x56, 0x34, 0x12], .wrStatus 0x12345678),
    ([0x24, 0x01, 0x78, 0x56, 0x34, 0x12], .wrTiming 0x12345678),
    ([0x28, 0x01, 0x78, 0x56, 0x34, 0x12], .wrClkcfg 0x12345678),
    ([0x2C, 0x01, 0x78, 0x56, 0x34, 0x12], .wrBlksize 0x12345678),
    ([0x30, 0x01, 0x78, 0x56, 0x34, 0x12], .wrBlkcnt 0x12345678),
    ([0x34, 0x01, 0x78, 0x56, 0x34, 0x12], .wrDataTx 0x12345678),
    ([0x38, 0x01, 0x78, 0x56, 0x34, 0x12], .wrDataRx 0x12345678)] = true := by decide

/-- The slots at `0x40 + 8k` and `0x44 + 8k` (R121). -/
theorem test_decode_slot_reads : allDecode .mmio [
    ([0x40, 0x00], .rdDmaBase0),
    ([0x44, 0x00], .rdDmaSize0),
    ([0x48, 0x00], .rdDmaBase1),
    ([0x4C, 0x00], .rdDmaSize1),
    ([0x50, 0x00], .rdDmaBase2),
    ([0x54, 0x00], .rdDmaSize2),
    ([0x58, 0x00], .rdDmaBase3),
    ([0x5C, 0x00], .rdDmaSize3),
    ([0x60, 0x00], .rdDmaBase4),
    ([0x64, 0x00], .rdDmaSize4),
    ([0x68, 0x00], .rdDmaBase5),
    ([0x6C, 0x00], .rdDmaSize5),
    ([0x70, 0x00], .rdDmaBase6),
    ([0x74, 0x00], .rdDmaSize6),
    ([0x78, 0x00], .rdDmaBase7),
    ([0x7C, 0x00], .rdDmaSize7)] = true := by decide

/-- Writes of the slots. -/
theorem test_decode_slot_writes : allDecode .mmio [
    ([0x40, 0x01, 0x78, 0x56, 0x34, 0x12], .wrDmaBase0 0x12345678),
    ([0x44, 0x01, 0x78, 0x56, 0x34, 0x12], .wrDmaSize0 0x12345678),
    ([0x48, 0x01, 0x78, 0x56, 0x34, 0x12], .wrDmaBase1 0x12345678),
    ([0x4C, 0x01, 0x78, 0x56, 0x34, 0x12], .wrDmaSize1 0x12345678),
    ([0x50, 0x01, 0x78, 0x56, 0x34, 0x12], .wrDmaBase2 0x12345678),
    ([0x54, 0x01, 0x78, 0x56, 0x34, 0x12], .wrDmaSize2 0x12345678),
    ([0x58, 0x01, 0x78, 0x56, 0x34, 0x12], .wrDmaBase3 0x12345678),
    ([0x5C, 0x01, 0x78, 0x56, 0x34, 0x12], .wrDmaSize3 0x12345678),
    ([0x60, 0x01, 0x78, 0x56, 0x34, 0x12], .wrDmaBase4 0x12345678),
    ([0x64, 0x01, 0x78, 0x56, 0x34, 0x12], .wrDmaSize4 0x12345678),
    ([0x68, 0x01, 0x78, 0x56, 0x34, 0x12], .wrDmaBase5 0x12345678),
    ([0x6C, 0x01, 0x78, 0x56, 0x34, 0x12], .wrDmaSize5 0x12345678),
    ([0x70, 0x01, 0x78, 0x56, 0x34, 0x12], .wrDmaBase6 0x12345678),
    ([0x74, 0x01, 0x78, 0x56, 0x34, 0x12], .wrDmaSize6 0x12345678),
    ([0x78, 0x01, 0x78, 0x56, 0x34, 0x12], .wrDmaBase7 0x12345678),
    ([0x7C, 0x01, 0x78, 0x56, 0x34, 0x12], .wrDmaSize7 0x12345678)] = true := by decide

/-- The dispatch keys of 95_test_vectors.md section 3.1 (R139). -/
theorem test_decode_dispatch_keys : allDecode .req [
    ([0x40], .submitR136 0x40),
    ([0x42], .submitR136 0x42),
    ([0x30], .submitDataPio 0x30),
    ([0x3A], .submitDataPio 0x3A),
    ([0x34], .submitDataDmaPoll 0x34),
    ([0x35], .submitDataDmaIrqThr 0x35),
    ([0x3F], .submitDataDmaIrqCmd 0x3F),
    ([0x3E], .submitDataDmaIrqCmd 0x3E),
    ([0x22], .submitNodataIrq 0x22),
    ([0x00], .submitNodataPoll 0x00),
    ([0x60], .submitNodataPoll 0x60)] = true := by decide

theorem test_decode_key_refused : (decode .req [0x50]).toBool = false ∧ (decode .req [0x80]).toBool = false := by decide

/-- Offset 0x3C, the offset behind the last slot, and a nine-bit key with a tenth bit stand for no register (R141). -/
theorem test_decode_offset_refused :
    (decode .mmio [0x3C, 0x00]).toBool = false ∧ (decode .mmio ([0x80, 0x01] ++ [0, 0, 0, 0])).toBool = false ∧
    (decode .mmio [0x00, 0x02]).toBool = false := by decide

/-- Operation ids 0x01 to 0x3A (R140); the operand bytes are the model's layout (entry 3). -/
theorem test_decode_operations_low : allDecode .seq [
    ([0x01, 0x70, 0x04, 0x00, 0x00, 0x04, 0x03], .fieldGet 0x470 4 3),
    ([0x02, 0xFF, 0xFF, 0xFF, 0xFF, 0x08, 0x04, 0x05, 0x00, 0x00, 0x00], .fieldSet 0xFFFFFFFF 8 4 5),
    ([0x03, 0x1C], .regRd (.plain .state)),
    ([0x03, 0x18], .regRd (.masked .int)),
    ([0x03, 0xFC], .regRd (.plain (.dmaSize 23))),
    ([0x04, 0x2C, 0xFF, 0x01, 0x00, 0x00], .regWr .blksize 0x1FF),
    ([0x04, 0x80, 0xFF, 0x01, 0x00, 0x00], .regWr (.dmaBase 8) 0x1FF),
    ([0x05, 0x00, 0x05, 0x00, 0x0F, 0x00], .regWrMasked .config 0x000F0005),
    ([0x10, 0x11, 0x34, 0x12, 0x00, 0x00, 0x01, 0x01], .cmdEncode 17 0x1234 .r48 true),
    ([0x18, 0x00], .rspNone .primary),
    ([0x19, 0x00], .rspGet48 .primary),
    ([0x1A, 0x01], .rspGet136 .stop),
    ([0x20], .dataCfg),
    ([0x21], .dataCfgDma),
    ([0x22], .dataCfgPio),
    ([0x28], .pioXfer),
    ([0x29, 0x00, 0x10, 0x00, 0x00, 0x04, 0x00, 0x00, 0x00, 0x00, 0x00, 0x00, 0x00], .pioWrWord 0x1000 4),
    ([0x2A, 0x00, 0x10, 0x00, 0x00, 0x08, 0x00, 0x00, 0x00, 0x00, 0x00, 0x00, 0x00], .pioRdWord 0x1000 8),
    ([0x31, 0x40], .submitR136 0x40),
    ([0x32, 0x30], .submitDataPio 0x30),
    ([0x33, 0x34], .submitDataDmaPoll 0x34),
    ([0x34, 0x35], .submitDataDmaIrqThr 0x35),
    ([0x34, 0x3F], .submitDataDmaIrqCmd 0x3F),
    ([0x35, 0x00], .submitNodataPoll 0x00),
    ([0x36, 0x22], .submitNodataIrq 0x22),
    ([0x37], .finishMapfail),
    ([0x38, 0x00], .trigger .poll),
    ([0x39], .finish),
    ([0x3A], .stopIssue)] = true := by decide

/-- Operation ids 0x40 to 0x76 (R140); the operand bytes are the model's layout (entry 3). -/
theorem test_decode_operations_high : allDecode .seq [
    ([0x40, 0x00], .waitUntil .finished),
    ([0x41], .waitFinish),
    ([0x42], .waitRspFull),
    ([0x43], .waitTxEmpty),
    ([0x44], .waitRxFull),
    ([0x48], .checkError),
    ([0x49, 0x03], .delayBump .wrCmd),
    ([0x4A], .swReset),
    ([0x4B], .timingWriteback),
    ([0x50], .irqEntry),
    ([0x51], .irqCmdDone),
    ([0x52], .irqCard),
    ([0x53], .deferredFinish),
    ([0x60, 0x00, 0x00, 0x00, 0x01], .setClock 0x01000000),
    ([0x61, 0x07, 0x01], .setTimingMode 7 true),
    ([0x62], .timingProgram),
    ([0x63, 0x04], .setBusWidth 4),
    ([0x64, 0x02], .setPower 2),
    ([0x65], .cardDetect),
    ([0x66, 0x01], .voltageSwitch 1),
    ([0x67, 0x00, 0x00, 0x00, 0x80, 0x01, 0x00, 0x00, 0x00], .attach 0x80000000 1),
    ([0x68], .detach),
    ([0x70], .bTrigger),
    ([0x71, 0x00], .bRsp .nothing),
    ([0x72, 0x02], .bDataDma .fail),
    ([0x73, 0x00, 0x01, 0x02, 0x03, 0x04], .bDataPio (.read 1 2 3 4)),
    ([0x74, 0x00], .bEnd .ok),
    ([0x75], .bCardIrq),
    ([0x76], .bSwReset)] = true := by decide

/-- The encoded Request `(opcode, 0, rsp)` with these codes, without data and stop (layout: entry 3): opcode, argument,
shape, four absent response words, error, retries, no data, no stop. -/
def requestBytes (opcode rsp error retries : Byte) : List Byte :=
  [opcode, 0, 0, 0, 0, rsp] ++ List.replicate 20 0 ++ [error, retries, 0, 0, 0] ++ [0] ++ [0]

/-- `SUBMIT` and `NOTIFY` (R140). -/
theorem test_decode_requests : allDecode .seq [
    (0x30 :: requestBytes 0 0 0 0, .submit ⟨⟨0, 0, .none, none, none, none, none, .none, 0⟩, none, none⟩),
    (0x3B :: requestBytes 12 3 1 1, .notify ⟨⟨12, 0, .r48b, none, none, none, none, .rspTimeout, 1⟩, none, none⟩)]
    = true := by decide

/-- Ids without an operation, and operand bytes that are missing or stand for nothing (R140, R142). -/
theorem test_decode_operation_refused :
    (decode .seq [0x00]).toBool = false ∧ (decode .seq [0x77]).toBool = false ∧ (decode .seq [0x49, 5]).toBool = false ∧
    (decode .seq [0x32, 0x40]).toBool = false ∧ (decode .seq []).toBool = false := by decide

/-- The table's own numbering: `WR.CTRL` is 0x114, `RD.STATE` 0x01C, `FINISH` 0x39 (95_test_vectors.md section 3.1). -/
theorem test_table_words :
    decodeTableWord 16 0x114 = some (.wrCtrl 0) ∧ decodeTableWord 16 0x01C = some .rdState ∧
    decodeTableWord 8 0x39 = some .finish ∧ decodeTableWord 8 0x30 = some (.submit
      ⟨⟨0, 0, .none, none, none, none, none, .none, 0⟩, none, none⟩) := by decide

/-- The codes of R138. -/
theorem test_codes :
    [HostMode.sd, .sdio, .emmc].map HostMode.code = [0, 1, 2] ∧ [PathMode.pio, .dma].map PathMode.code = [0, 1] ∧
    [Dir.rd, .wr].map Dir.code = [0, 1] := by decide

/-- A table word runs as the next step: `RD.STATE` returns, `B_CARD_IRQ` sets its bit. -/
theorem test_withFetchWord : ∃ t, step (State.reset.withFetchWord 8 0x75) = .next t ∧ t.reg.cardPend = true :=
  ⟨_, rfl, rfl⟩

/-- `B_TRIGGER` runs too: it needs an idle engine and no transaction (R420). -/
theorem test_withFetchWord_trigger :
    ∃ t, step (State.reset.withFetchWord 8 0x70) = .next t ∧ t.bus.phase = .busy ∧ t.host.tc = .idle :=
  ⟨_, rfl, rfl, rfl⟩

/-! ### Well-formed instructions: each check refuses an ill-formed one -/

theorem test_wf_keys :
    (Instr.submitR136 0x30).wf = false ∧ (Instr.submitDataPio 0x34).wf = false ∧
    (Instr.submitDataDmaIrqCmd 0x35).wf = false ∧ (Instr.submitDataDmaIrqThr 0x34).wf = false ∧
    (Instr.submitDataDmaPoll 0x36).wf = false ∧ (Instr.submitNodataIrq 0x20).wf = false ∧
    (Instr.submitNodataPoll 0x02).wf = false ∧ (Instr.submitR136 0x50).wf = false := by decide

theorem test_wf_registers :
    (Instr.regRd (.plain (.dmaSize 24))).wf = false ∧ (Instr.regWr (.dmaBase 24) 0).wf = false ∧
    (Instr.regWr (.dmaBase 23) 0).wf = true := by decide

theorem test_wf_offsets :
    (Instr.pioWrWord 0 (2 ^ 64)).wf = false ∧ (Instr.pioRdWord 0 (2 ^ 64)).wf = false ∧
    (Instr.pioWrWord 0 (2 ^ 64 - 1)).wf = true := by decide

/-- A Command with these completion fields. -/
def cmdOf (opcode : Byte) (arg : Word) (rsp : RspShape) : Command := ⟨opcode, arg, rsp, none, none, none, none, .none, 0⟩

/-- A Request without data. -/
def plainReq (opcode : Byte) (arg : Word) (rsp : RspShape) : Request := ⟨cmdOf opcode arg rsp, none, none⟩

/-- A Data Descriptor at submission. -/
def dataOf (dir : Dir) (blksz blocks : Nat) (sg : List Segment) : DataDesc := ⟨dir, blksz, blocks, sg, .none, 0⟩

/-- A Request with data. -/
def dataReq (opcode : Byte) (arg : Word) (d : DataDesc) : Request := ⟨cmdOf opcode arg .r48, some d, none⟩

theorem test_wf_requests :
    (Instr.submit ⟨{ cmdOf 0 0 .none with retries := 2 ^ 32 }, none, none⟩).wf = false ∧
    (Instr.notify ⟨cmdOf 0 0 .none, none, some { cmdOf 12 0 .r48b with retries := 2 ^ 32 }⟩).wf = false ∧
    (Instr.submit (dataReq 17 0 (dataOf .rd (2 ^ 64) 1 []))).wf = false ∧
    (Instr.submit (dataReq 17 0 (dataOf .rd 1 (2 ^ 64) []))).wf = false ∧
    (Instr.submit (dataReq 17 0 { dataOf .rd 1 1 [] with bytesXfered := 2 ^ 64 })).wf = false ∧
    (Instr.submit (dataReq 17 0 (dataOf .rd 1 1 [⟨0, 2 ^ 64⟩]))).wf = false := by decide

theorem test_wf_segments : (Instr.submit (dataReq 17 0 (dataOf .rd 1 1 (List.replicate (2 ^ 16) ⟨0, 0⟩)))).wf = false := by
  simp only [Instr.wf, Request.wf, dataReq, dataOf, Option.all_some, DataDesc.wf, List.length_replicate, Nat.lt_irrefl,
    decide_false, Bool.and_false, Bool.false_and]

theorem test_wf_answers :
    (Instr.bRsp (.bytes (List.replicate (2 ^ 8) 0) true)).wf = false ∧
    (Instr.bDataDma (.read (List.replicate (2 ^ 16) 0))).wf = false ∧
    (Instr.bDataDma (.take (2 ^ 16))).wf = false := by
  simp only [Instr.wf, RspAnswer.wf, DmaAnswer.wf, List.length_replicate, Nat.lt_irrefl, decide_false, and_self]

/-! ### States to start from: the boot state of 95_test_vectors.md section 1 -/

/-- The reference configuration; `T = 100`, `S = 10`. -/
def cfg0 : Cfg where
  base := 0x80000000
  moved := []
  useIntFlips := []
  clkDivs := [⟨200000000, 400000, 0x1F3⟩]
  delays := []
  addrW := 32
  maxSeg := 8
  sectorSize := 512
  blksizeW := 16
  blkcntW := 16
  dlyW := 3
  waitTimeout := 100
  settleDelay := 10
  dmaIntThreshold := 1024
  maxRetries := 8
  normalRetries := 1
  lowSpeedDiv := 0x200
  hsClock := 50000000
  crcTokenWriteErr := 0b101
  irqOnError := true
  timeoutNoErrbit := .waitTimeout
  path := .dma
  mode := .sd
  lenModeNoAutostop := true
  pioAbortScope := .segment

/-- The boot state. -/
def boot : State :=
  { State.reset with
    cfg := cfg0
    host := { HostCtx.fresh 0 0 .dma .sd with clockSet := true, timingSet := true }
    reg := { RegBlock.reset with cardEn := true, clkDiv := 0x1F3 } }

/-- The boot state of a PIO host. -/
def bootPio : State :=
  { boot with cfg := { cfg0 with path := .pio }, host := { boot.host with path := .pio } }

/-- `r` is outstanding in the machine state `tc`. -/
def holding (r : Request) (tc : TcState) (s : State) : State :=
  s.setHost { s.host with mrq := some r, lock := .held, tc := tc }

/-- The engine runs a transaction of `blocks` blocks of `blksz` bytes with this `CONFIG`. -/
def running (config : Half) (blksz blocks : Nat) (rsp : RspPhase) (s : State) : State :=
  s.setBus { s.bus with
    phase := .busy
    latched := some ⟨0, 0, config, BitVec.ofNat 32 (blksz - 1), BitVec.ofNat 32 (blocks - 1), 0⟩
    rspPhase := rsp }

/-- The window and the stream hold these bytes. -/
def responded (hi : Word) (lo : Half) (stream : List Byte) (s : State) : State :=
  (s.setReg { s.reg with rspHi := hi, rspLo := lo, rspBufFull := true }).setBus { s.bus with rspStream := stream }

/-- The error state with these `STATUS` bits and this token. -/
def failed (status : BitVec 6) (token : BitVec 3) (s : State) : State :=
  s.setReg { s.reg with error := true, errBits := status, crcToken := token }

/-- What a property says of the next state; false of a fault or a refusal. -/
def after (o : Res) (p : State → Bool) : Bool :=
  match o with
  | .next s => p s
  | _ => false

/-- One read request of 512 bytes by DMA, and one of 8 bytes by PIO. -/
def read512 : Request := dataReq 18 0x100 (dataOf .rd 512 1 [⟨0x80001000, 512⟩])
def read8 : Request := dataReq 17 0x1234 (dataOf .rd 8 1 [⟨0x1000, 8⟩])

/-- `refOffsets` names every register that format `MMIO` reaches. -/
theorem test_offsets : refOffsets.all (fun off => (decode .mmio [BitVec.ofNat 8 off, 0]).toBool) = true ∧
    refOffsets.all (fun off => (regOf off).isSome) = true := by decide

/-- A platform that puts `STATE` at 0x90: the register stands there and nowhere else. -/
theorem test_moved_register :
    ({ cfg0 with moved := [⟨0x1C, 0x90⟩] } : Cfg).legal = true ∧
    fetchInstr { cfg0 with moved := [⟨0x1C, 0x90⟩] } .mmio [0x90, 0] = .ok (.rdState, []) ∧
    (fetchInstr { cfg0 with moved := [⟨0x1C, 0x90⟩] } .mmio [0x1C, 0]).toBool = false := ⟨by decide, rfl, rfl⟩

/-! ### One step (95_test_vectors.md sections 3.2 to 3.11) -/

theorem test_field_get : after (exec (.fieldGet 0x470 4 3) boot) (fun t => (actorCtx t).word == 7) = true := by decide

theorem test_field_set :
    after (exec (.fieldSet 0xFFFFFFFF 8 4 5) boot) (fun t => (actorCtx t).word == 0xFFFFF5FF) = true := by decide

/-- `STATE = 0x52` holds the token `0b101` (R165). -/
theorem test_read_field :
    after (readFieldOf (.plain .state) Field.crcToken (boot.setReg { boot.reg with error := true, crcToken := 0b101 }))
      (fun t => (actorCtx t).word == 0b101) = true ∧
    readField 0x52 Field.crcToken = 0b101 := by decide

/-- A field among others of a plain register keeps them, and the masked form is refused there (R166). -/
theorem test_write_field :
    after (writeField .cmdbuf Field.opcode 12 (boot.setReg { boot.reg with cmdbuf := 0x51000012 }))
      (fun t => t.reg.cmdbuf == 0x4C000012) = true ∧
    writeFieldMaskedOf (.plain .cmdbuf) Field.opcode 12 boot = .refused .plainRegister := ⟨by decide, rfl⟩

/-- The one field of `RSPBUF_LO` is written whole: nothing is read, and the window stays (30_encoding.md R145). -/
theorem test_write_field_of_the_window :
    writeField .rspbufLo Field.rspB45 1 (responded 1 2 [] boot) = .next (responded 1 2 [] boot) := rfl

theorem test_masked_config :
    after (exec (.regWrMasked .config 0x000F0005) (boot.setReg { boot.reg with config := 0x0308 }))
      (fun t => t.reg.config == 0x0305) = true ∧
    after (exec (.wrConfig 0xFC00FC00) boot) (fun t => t.reg.config == 0) = true := by decide

theorem test_masked_int :
    after (exec (.wrInt 0x00050004) (boot.setReg { boot.reg with cmpEn := true, cmpPend := true }))
      (fun t => intView t.reg == 0x10) = true ∧
    after (exec (.regWrMasked .int 0x00020002) boot) (fun t => intView t.reg == 0x10) = true := by decide

theorem test_masked_timing :
    after (exec (.wrTiming 0x7FFF0611) boot) (fun t => t.reg.timing == 0x0611) = true := by decide

theorem test_masked_clkcfg :
    after (exec (.wrClkcfg 0x0FFF03FF) boot) (fun t => t.reg.clkDiv == 0x3FF) = true := by decide

theorem test_ctrl :
    after (exec (.wrCtrl 0x00010001) boot) (fun t => t.bus.phase == .busy) = true ∧
    after (exec (.wrCtrl 0x00000001) boot) (fun t => t.bus.phase == .idle) = true := by decide

theorem test_plain_write :
    after (exec (.regWr .cmdargLo 0xFFFFFF34) boot) (fun t => t.reg.cmdargLo == 0x34) = true ∧
    after (exec (.wrBlksize 0x1FF) boot) (fun t => t.reg.blksize == 511) = true := by decide

theorem test_flag_words :
    after (exec .rdInt boot) (fun t => (actorCtx t).word == 0x10) = true ∧
    after (exec .rdStatus boot) (fun t => (actorCtx t).word == 0x200) = true := by decide

theorem test_cmd_encode :
    after (exec (.cmdEncode 17 0x1234 .r48 true) boot)
      (fun t => t.reg.cmdbuf == 0x51000012 && t.reg.cmdargLo == 0x34 && t.reg.config == 0xD) = true ∧
    after (exec (.cmdEncode 12 0 .r48b false) (boot.setReg { boot.reg with config := 0x03D0 }))
      (fun t => t.reg.config == 0x03D5) = true := by decide

/-- P2: `0x12345678`/`0x00009ABC`. -/
theorem test_rsp_get48 :
    after (exec (.rspGet48 .primary)
        (responded 0x12345678 0x9ABC [] (holding (plainReq 13 0 .r48) .finishing boot)))
      (fun t => currentCmd t .primary == some { cmdOf 13 0 .r48 with
        resp0 := some 0x3456789A, resp1 := some 0xBC000000 } && statusView t.reg == 0x200) = true := by decide

/-- P3: the last of three passes. -/
theorem test_rsp_get136 :
    after (runFrame exec (.rsp136 .primary [(0x3F010203, 0x405), (0x06070809, 0xA0B)] 100)
        (responded 0x0C0D0E0F 0x10FF [] (holding (plainReq 2 0 .r136) .waitingPoll boot)))
      (fun t => currentCmd t .primary == some { cmdOf 2 0 .r136 with
        resp0 := some 0x01020304, resp1 := some 0x05060708, resp2 := some 0x090A0B0C
        resp3 := some 0x0D0E0F10 }) = true := by decide

/-- P3: the three turns together. -/
theorem test_rsp_get136_turns :
    after (andThen (exec (.rspGet136 .stop)
        (responded 0x3F010203 0x0405 [6, 7, 8, 9, 0xA, 0xB, 0xC, 0xD, 0xE, 0xF, 0x10, 0xFF]
          (holding { plainReq 2 0 .r136 with stop := some (cmdOf 12 0 .r136) } .waitingPoll boot)))
        fun s => andThen (resumeActor exec s) (resumeActor exec))
      (fun t => currentCmd t .stop == some { cmdOf 12 0 .r136 with
        resp0 := some 0x01020304, resp1 := some 0x05060708, resp2 := some 0x090A0B0C
        resp3 := some 0x0D0E0F10 } && currentCmd t .primary == some (cmdOf 2 0 .r136) && (actorCtx t).stack == [])
      = true := by decide

theorem test_data_cfg_dma :
    after (exec .dataCfg (holding read512 .preparing (boot.setReg { boot.reg with config := 0x000D })))
      (fun t => t.reg.config == 0x00DD && t.reg.blksize == 511 && t.reg.blkcnt == 0 &&
        t.reg.slot 0 == ⟨0x80001000, 1⟩ && (actorCtx t).ret == 0) = true := by decide

theorem test_data_cfg_pio :
    after (exec .dataCfg (holding read8 .preparing (bootPio.setReg { boot.reg with config := 0x000D })))
      (fun t => t.reg.config == 0x03DD && t.reg.blksize == 7) = true := by decide

/-- P6 (b): nine segments. -/
theorem test_dma_capacity :
    after (exec .dataCfgDma
        (holding (dataReq 18 0 (dataOf .rd 512 9 (List.replicate 9 ⟨0, 512⟩))) .preparing boot))
      (fun t => ((currentData t).map DataDesc.error == some .dmaMap) && (actorCtx t).ret == -1 &&
        t.reg == boot.reg) = true := by decide

/-- A read of two segments of two bytes where the table has one slot. -/
def overCapacity : State := holding (dataReq 18 0 (dataOf .rd 2 2 [⟨0x1000, 2⟩, ⟨0x2000, 2⟩])) .preparing
  { boot with cfg := { cfg0 with maxSeg := 1 } }

/-- The buffers of a read whose mapping failed hold any value (R90, U10). -/
theorem test_failed_mapping_frees :
    after (exec .dataCfgDma overCapacity) (fun t => t.draws == overCapacity.draws + 4) = true := by decide

theorem test_pio_read :
    after (exec (.pioRdWord 0x1000 4)
        ((boot.setReg { boot.reg with rxBufFull := true }).setBus { boot.bus with rxFifo := [0x04030201] }))
      (fun t => t.bufMem.read (bufKey 0x1000 4) == 1 && t.bufMem.read (bufKey 0x1000 7) == 4 && !t.reg.rxBufFull)
      = true := by decide

theorem test_pio_write :
    after (exec (.pioWrWord 0x1000 0) (boot.setBufMem (writeBufWord [] 0x1000 0 0xEFBEADDE)))
      (fun t => t.bus.txFifo == [0xEFBEADDE]) = true := by decide

/-- Program 1 behind its first two operations, and a blocked second submitter (P1). -/
theorem test_submit :
    after (exec (.submit (plainReq 0 0 .none)) boot) (fun t => t.host.lock == .held && t.host.tc == .preparing) = true ∧
    after (exec (.submit (plainReq 0 0 .none)) (holding (plainReq 13 0 .r48) .waitingPoll boot))
      (fun t => t.reg == boot.reg && t.host.tc == .waitingPoll) = true := by decide

theorem test_path_pio :
    after (exec (.submitDataPio 0x30) (holding read8 .preparing bootPio))
      (fun t => t.host.tc == .waitingPoll && t.bus.phase == .busy && !t.reg.cmpEn) = true := by decide

theorem test_path_other_key :
    exec (.submitNodataPoll 0x00) (holding read8 .preparing bootPio) = .refused .pathOperands := by rfl

/-- The map-failure path rests in `Finishing`, and its tail ends it (95_test_vectors.md section 3.7). -/
theorem test_finish_mapfail :
    after (exec .finishMapfail (holding { read512 with data := read512.data.map fun d => { d with error := .dmaMap } }
        .preparing boot))
      (fun t => t.host.tc == .finishing && t.host.mrq.isSome &&
        after (resumeActor exec t) fun u => u.host.tc == .idle && u.host.lock == .free && u.host.mrq.isNone) = true := by
  decide

/-- P7: a second `FINISH`. -/
theorem test_finish_twice :
    exec .finish (holding read8 .finishing bootPio) = .next (holding read8 .finishing bootPio) ∧
    exec .finish boot = .next boot := ⟨rfl, rfl⟩

theorem test_stop_issue :
    after (exec .stopIssue (holding { read512 with stop := some (cmdOf 12 0 .r48b) } .finishing boot))
      (fun t => t.out == [.cmd 12 0] && t.reg.cmdbuf == 0x4C000000 && t.host.tc == .finishing) = true := by decide

/-- The awaited bit wins over the error bit; the error bit ends the wait at once. -/
theorem test_wait_finish :
    after (exec .waitFinish (failed 1 0 (boot.setReg { boot.reg with finished := true })))
      (fun t => (actorCtx t).ret == 0 && !t.host.waitFailed) = true ∧
    after (exec .waitFinish (failed 1 0 boot)) (fun t => (actorCtx t).ret == -1 && t.host.waitFailed) = true := by decide

theorem test_wait_rsp_full :
    after (exec .waitRspFull boot) (fun t => (actorCtx t).stack == [.poll .rspBufFull 100]) = true := by decide

theorem test_wait_tx_empty : after (exec .waitTxEmpty boot) (fun t => (actorCtx t).ret == 0) = true := by decide

/-- P4, and the token of a write. -/
theorem test_check_error :
    after (exec .checkError (holding read512 .finishing (failed 0x18 0 boot)))
      (fun t => (t.host.mrq.map fun r => (r.cmd.error, r.cmd.retries)) == some (.rdataCrc16, 1) &&
        t.host.tune.rdDat == 1 && t.host.tune.rdCrc == 0 && t.reg.errBits == 0) = true ∧
    after (exec .checkError
        (holding (dataReq 24 0 (dataOf .wr 512 1 [⟨0, 512⟩])) .finishing (failed 0x20 0b101 boot)))
      (fun t => t.host.tune.wrDat == 1 && t.host.tune.rdCrc == 0) = true := by decide

theorem test_check_error_success :
    after (exec .checkError (holding (dataReq 18 0 (dataOf .rd 512 8 [⟨0, 4096⟩])) .finishing boot))
      (fun t => (currentData t).map DataDesc.bytesXfered == some 4096) = true := by decide

theorem test_delay_bump :
    after (exec (.delayBump .rdDat)
        (boot.setHost { boot.host with tune := { boot.host.tune with rdDat := 7 } }))
      (fun t => t.host.tune.rdDat == 0) = true := by decide

theorem test_timing_writeback :
    after (exec .timingWriteback (boot.setHost { boot.host with tune := ⟨1, 2, 0, 3, 0, .none⟩ }))
      (fun t => t.reg.timing == 0x0611) = true := by decide

theorem test_irq_cmd_done :
    after (exec .irqCmdDone (holding { read512 with stop := some (cmdOf 12 0 .r48b) } .waitingInterrupt
        ((boot.setReg { boot.reg with cmpEn := true, cmpPend := true }).setActor .i)))
      (fun t => t.host.deferred && intView t.reg == 0x10 && t.i.stack == []) = true := by decide

theorem test_irq_entry :
    after (exec .irqEntry ((boot.setReg { boot.reg with
        cmpEn := true, cmpPend := true, cardPend := true }).setActor .i))
      (fun t => t.i.stack == [.call .irqCmdDone, .call .irqCard]) = true := by decide

theorem test_set_timing_mode :
    after (exec (.setTimingMode 1 false) (boot.setHost { boot.host with tune := ⟨0, 1, 0, 0, 0, .rdataCrc16⟩ }))
      (fun t => t.reg.timing == 0x0008) = true := by decide

theorem test_attach :
    after (exec (.attach 0x80000000 1) boot) (fun t => intView t.reg == 0x10) = true ∧
    after (exec (.attach 0x80000000 1) (boot.setPlat { boot.plat with available := false })) (fun t => !t.host.attached) = true := by decide

/-- `TIMING` counts as set once the clock has been set before (70_reset_and_hazards.md R505). -/
theorem test_timing_before_the_clock :
    after (exec (.setTimingMode 1 false) State.reset) (fun t => !t.host.timingSet) = true ∧
    after (exec (.setTimingMode 1 false) (State.reset.setHost { State.reset.host with clockSet := true }))
      (fun t => t.host.timingSet) = true := ⟨rfl, rfl⟩

theorem test_set_clock :
    after (exec (.setClock 400000) (boot.setHost { boot.host with srcClk := 200000000 }))
      (fun t => t.reg.clkDiv == 0x1F3 && t.host.useInt) = true := by decide

theorem test_b_trigger :
    after (exec .bTrigger (boot.setReg { boot.reg with cmdbuf := 0x51000012, cmdargLo := 0x34, finished := true }))
      (fun t => t.out == [.cmd 17 0x1234] && !t.reg.finished && statusView t.reg == 0x200) = true := by decide

theorem test_b_rsp :
    after (exec (.bRsp (.bytes [0x11, 0, 0, 9, 0, 0x2B] true)) (running 0xD 8 1 .waiting boot))
      (fun t => t.reg.rspHi == 0x11000009 && t.reg.rspLo == 0x2B && t.reg.rspBufFull) = true := by decide

/-- Byte 4096 of the walk of 95_test_vectors.md section 3.11 goes to the second slot. -/
theorem test_b_data_dma :
    after (exec (.bDataDma (.read [7, 9]))
        (running 0xDD 512 16 .done ((boot.setReg { boot.reg with
          slots := [⟨0x80001000, 8⟩, ⟨0x80400000, 8⟩] }).setBus
            { boot.bus with dmaOff := 4095, moved := 4095 })))
      (fun t => t.dmaMem == [(0x80001FFF, 7), (0x80400000, 9)] && t.bus.dmaSlot == 1 && t.bus.dmaOff == 1)
      = true := by decide

theorem test_b_data_pio :
    after (exec (.bDataPio .take)
        (running 0x33D 8 1 .done ((boot.setReg { boot.reg with txBufEmpty := false }).setBus
          { boot.bus with txFifo := [0xEFBEADDE] })))
      (fun t => t.bus.sent == [0xDE, 0xAD, 0xBE, 0xEF] && t.reg.txBufEmpty) = true := by decide

theorem test_b_end :
    after (exec (.bEnd (.err 0x20 0b101 true)) (running 0x33D 8 1 .done boot)) (fun t => stateView t.reg == 0x53) = true ∧
    after (exec (.bEnd .ok) (running 0 1 1 .done (boot.setReg { boot.reg with cmpEn := true })))
      (fun t => t.reg.cmpPend && t.reg.finished && t.bus.phase == .idle) = true := by decide

theorem test_b_sw_reset :
    after (exec .bSwReset ((failed 0x20 5 boot).setReg { (failed 0x20 5 boot).reg with
        finished := true, rspBufFull := true, cmpEn := true, cmpPend := true }))
      (fun t => statusView t.reg == 0x200 && !t.reg.error && !t.reg.finished && t.reg.cmpEn && !t.reg.cmpPend)
      = true := by decide

/-! ### Witnesses: concrete states and operands that meet the hypotheses of each statement of Obligations.lean -/

/-- The next event of the schedule is `e`. -/
def next (e : Event) (s : State) : State := s.setSched [e]

/-- `FINISH` while another agent finishes, `ATTACH`, an inline operation while idle, a raw trigger, `IRQ_ENTRY` on a busy
interrupt unit, the completion arm once its interrupt has come, and a submission without a pending cancel request; the
last register of `refOffsets`. -/
theorem witness_StepRunsDecodedInstruction :
    (next (.run (.p 0) .seq [0x39]) boot).sched = [.run (.p 0) .seq [0x39]] ∧
    fetchInstr cfg0 .seq [0x39] = .ok (.finish, []) ∧ agentMayRun (.p 0) .finish = true ∧ boot.host.attached = true ∧
    (holding read512 .finishing boot).host.tc = .finishing ∧ (getCtx boot (.p 0)).stack = [] ∧
    fetchInstr cfg0 .seq [0x67, 0, 0, 0, 0, 0, 0, 0, 0] = .ok (.attach 0 0, []) ∧
    agentMayRun (.p 0) (.attach 0 0) = true ∧ isAttach (.attach 0 0) = true ∧
    fetchInstr cfg0 .seq [0x20] = .ok (.dataCfg, []) ∧ inlineOnly .dataCfg = true ∧ boot.host.tc = .idle ∧
    fetchInstr cfg0 .seq [0x70] = .ok (.bTrigger, []) ∧ agentMayRun (.p 0) .bTrigger = true ∧
    agentMayRun .i .irqCmdDone = true ∧ (holding read512 .waitingInterrupt boot).host.tc = .waitingInterrupt ∧
    ((holding read512 .waitingInterrupt boot).setHost { (holding read512 .waitingInterrupt boot).host with
      cmpTaken := true }).host.cmpTaken = true ∧
    (boot.setReg { boot.reg with cmpEn := true, cmpPend := true }).reg.cmpPend = true ∧ boot.cancels = [] ∧
    (Instr.wrClkcfg 0).access.isSome = true ∧ agentMayRun .i .irqEntry = true ∧ cfg0.legal = true ∧ 0x7C ∈ refOffsets :=
  ⟨rfl, rfl, rfl, rfl, rfl, rfl, rfl, rfl, rfl, rfl, rfl, rfl, rfl, rfl, rfl, rfl, rfl, rfl, rfl, rfl, rfl, by decide,
    by decide⟩

theorem witness_StepTakesTheNextEvent :
    boot.sched = [] ∧ (next (.tick 0) boot).sched = [.tick 0] ∧
    (next (.provide false) boot).sched = [.provide false] ∧
    (next (.resume .w) boot).sched = [.resume .w] ∧ (getCtx boot .w).stack = [] ∧
    (getCtx (pushFrames [.tailFinish] boot) (.p 0)).stack = [.tailFinish] ∧
    (pushFrames [.tailFinish] boot).host.attached = true := by decide

/-- U's write: refused while the Request is outstanding and while its notification is still to come, done afterwards. -/
theorem witness_upstream_write :
    read512.data = some (dataOf .rd 512 1 [⟨0x80001000, 512⟩]) ∧ boot.host.path = .dma ∧
    (holding read512 .preparing boot).host.mrq = some read512 ∧
    Frame.call (.notify read512) ∈ (getCtx (pushFrames [.call (.notify read512)] boot) (.p 0)).stack ∧
    bufferMapped 0x80001000 (holding read512 .preparing boot) = true ∧
    bufferMapped 0x80001000 (pushFrames [.call (.notify read512)] boot) = true ∧
    bufferMapped 0x80001000 boot = false ∧ bufferMapped 0x80002000 (holding read512 .preparing boot) = false ∧
    boot.memoryCanonical := ⟨by decide, by decide, by decide, by decide, by decide, by decide, by decide, by decide, rfl, rfl⟩

theorem witness_ForbiddenOperationsAreRefused :
    fetchInstr cfg0 .seq [0x75] = .ok (.bCardIrq, []) ∧ engineOnly .bCardIrq = true ∧ (Agent.w ≠ .b) ∧
    fetchInstr cfg0 .seq [0x70] = .ok (.bTrigger, []) ∧ engineOnly .bTrigger = false ∧
    fetchInstr cfg0 .seq [0x68] = .ok (.detach, []) ∧ submissionOnly .detach = true ∧ agentMayRun (.p 0) .detach = true ∧
    (boot.setHost { boot.host with attached := false }).host.attached = false ∧ isAttach .detach = false ∧
    (boot.setActor .i).actor = .i ∧ inlineOnly .dataCfg = true ∧ agentMayRun (.p 0) .dataCfg = true ∧
    (getCtx (pushFrames [.tailFinish] boot) (.p 0)).stack ≠ [] ∧ (getCtx boot (.p 0)).stack = [] ∧
    (holding read512 .preparing boot).host.tc ≠ .idle ∧ (holding read512 .preparing boot).host.tc ≠ .finishing ∧
    agentMayRun (.p 0) .finish = true ∧ roleOf .waitFinish = .waiting ∧ interruptOnly .irqEntry = true ∧
    (holding read512 .waitingInterrupt boot).host.tc = .waitingInterrupt ∧
    (holding read512 .waitingInterrupt boot).host.cmpTaken = false ∧ boot.reg.cmpPend = false :=
  ⟨rfl, rfl, by decide, rfl, rfl, rfl, rfl, rfl, rfl, rfl, rfl, rfl, rfl, by decide, rfl, by decide, by decide, rfl, rfl,
    rfl, rfl, rfl, rfl⟩

/-- A bare trigger by the interrupt unit on an idle machine makes the engine busy (R420, R466). -/
theorem test_bare_trigger :
    after (step (next (.run .i .seq [0x70]) boot)) (fun t => t.bus.phase == .busy && t.host.tc == .idle) = true := by
  decide

/-- An operation on a blocked thread, an inline operation beside a transaction, and a `FINISH` beside the wait of the path
it would end, in one step each. -/
theorem test_refused_starts :
    step (next (.run (.p 0) .seq [0x39]) (pushFrames [.blocked (.submit read512)] boot)) = .refused .agentBusy ∧
    step (next (.run (.p 1) .seq [0x20]) (holding read512 .preparing boot)) = .refused .inlineOnly ∧
    step (next (.run (.p 1) .seq [0x39]) (holding read512 .waitingPoll boot)) = .refused .inlineOnly :=
  ⟨rfl, rfl, rfl⟩

/-- The completion interrupt of the outstanding Request has been taken, and its item is queued. -/
def queued (r : Request) : State :=
  (holding r .waitingInterrupt boot).setHost { (holding r .waitingInterrupt boot).host with cmpTaken := true, deferred := true }

/-- The completion arm before its interrupt is not reached; a duplicate while the item is queued silences the source and
fills the full slot (48_interrupt_deferred.md R377). -/
theorem test_duplicate_completion :
    step (next (.run .i .seq [0x51]) (holding read512 .waitingInterrupt boot)) =
      .next (holding read512 .waitingInterrupt boot) ∧
    after (step (next (.run .i .seq [0x51]) ((queued { read512 with stop := some (cmdOf 12 0 .r48b) }).setReg
        { boot.reg with cmpEn := true })))
      (fun t => t.host.deferred && !t.reg.cmpEn && t.i.stack == [] && t.host.tc == .waitingInterrupt) = true :=
  ⟨rfl, by decide⟩

/-- The operands with the greatest values their encodings hold. -/
theorem witness_DecodeOfEncode :
    (Instr.pioRdWord 0xFFFFFFFF (2 ^ 64 - 1)).wf = true ∧ (Instr.submitNodataPoll 0x60).wf = true ∧
    (Instr.bEnd (.err 0x3F 7 true)).wf = true ∧ (Instr.submit read512).wf = true := by decide

/-- A transfer at the threshold, and one above it. -/
theorem witness_DispatchKeySelectsThePath :
    requestWellFormed cfg0 .dma (dataReq 18 0 (dataOf .rd 512 2 [⟨0, 1024⟩])) = true ∧
    requestWellFormed cfg0 .dma (dataReq 18 0 (dataOf .rd 512 3 [⟨0, 1536⟩])) = true ∧
    requestWellFormed cfg0 .pio read8 = true ∧ requestWellFormed cfg0 .pio (plainReq 63 0 .r136) = true := by decide

/-- A table in which nothing is written holds no reserved bit. -/
theorem zero_slots : ∀ k, (boot.reg.slot k).addr &&& ~~~(addrWritable boot.cfg) = 0#32 := fun k => by
  simp [RegBlock.slot, boot, RegBlock.reset, entryAt, Slot.zero]

/-- The invariants hold of a state that a step changes: for `StepKeepsMemoryCanonical`, `StepKeepsOneOutstanding`,
`StepKeepsReservedBitsZero`, `StepKeepsFlagsAgreeing`, `StepKeepsTuningAndModes`, `StepNeverGoesBack`. -/
theorem witness_StepKeeps :
    (next (.tick 1) boot).memoryCanonical ∧ (next (.tick 1) boot).reservedZero ∧ (next (.tick 1) boot).oneOutstanding ∧
    (next (.tick 1) boot).buffersAgree ∧ (next (.tick 1) boot).errorAgrees ∧ (next (.tick 1) boot).busyLatched ∧
    (next (.tick 1) boot).busyInTransaction ∧
    (next (.tick 1) boot).delaysFit ∧ (next (.tick 1) boot).spinlockFree ∧ (next (.tick 1) boot).modeFixed ∧
    step (next (.tick 1) boot) = .next (boot.setNow 1) := by
  refine ⟨⟨rfl, rfl⟩, ⟨by decide, by decide, by decide, by decide, zero_slots⟩, ⟨by decide, by decide⟩, ⟨rfl, rfl⟩, ?_, ?_, ?_,
    ⟨by decide, by decide, by decide, by decide, by decide⟩, rfl, ⟨rfl, rfl⟩, rfl⟩
  · exact (by decide : false = true ↔ 0#6 ≠ 0#6)
  · exact (by decide : BusPhase.idle = .busy → false = true)
  · exact (by decide : BusPhase.idle = .busy → inTransaction .idle = true)

/-- The tail of a transaction that leaves the engine busy: the exception of `StepKeepsOneOutstanding`. -/
theorem test_tail_with_a_busy_engine :
    after (runFrame exec .tailFinish (running 0 1 1 .done (holding read512 .finishing boot)))
      (fun t => t.bus.phase == .busy && t.host.tc == .idle) = true := by decide

/-- For `ReadsReturnTheRegister` and `FlagWordsShowTheFlags`: every register of the statements, the last slot among them. -/
theorem witness_register_reads :
    (Instr.rdDmaBase7).access = some (.rd (.plain (.dmaBase 7))) ∧ 7 < boot.cfg.maxSeg ∧
    (Instr.rdDmaSize0).access = some (.rd (.plain (.dmaSize 0))) ∧ (Instr.rdCtrl).access = some (.rd (.masked .ctrl)) ∧
    (Instr.rdCmdbuf).access = some (.rd (.plain .cmdbuf)) ∧ (Instr.rdInt).access = some (.rd (.masked .int)) ∧
    (Instr.rdState).access = some (.rd (.plain .state)) ∧ (Instr.rdStatus).access = some (.rd (.plain .status)) := by
  decide

/-- Five and six bytes left in the stream. -/
theorem witness_WindowAndPortReadsConsume :
    boot.reg.rspBufFull = false ∧ (responded 0 0 [1, 2, 3, 4, 5] boot).reg.rspBufFull = true ∧
    (responded 0 0 [1, 2, 3, 4, 5] boot).bus.rspStream.length < 6 ∧
    (responded 0 0 [1, 2, 3, 4, 5, 6] boot).bus.rspStream = 1 :: 2 :: 3 :: 4 :: 5 :: 6 :: [] ∧
    boot.reg.rxBufFull = false ∧ (boot.setReg { boot.reg with rxBufFull := true }).reg.rxBufFull = true ∧
    (boot.setBus { boot.bus with rxFifo := [1] }).bus.rxFifo = 1 :: [] := by decide

/-- For `PlainWritesReplaceTheRegister`, `SlotWritesReplaceOneSlot`, `MaskedWritesNeedTheirMask`, `ReadOnlyAndPortWrites`:
the last slot of a table of eight, the first missing slot of a table of seven, and both states of `TX_BUF_EMPTY`. -/
theorem witness_register_writes :
    boot.cfg.legal = true ∧ boot.bus.phase = .idle ∧ 7 < boot.cfg.maxSeg ∧
    (Instr.wrDmaBase7 1).access = some (.wr (.plain (.dmaBase 7)) 1) ∧
    (Instr.wrDmaSize7 1).access = some (.wr (.plain (.dmaSize 7)) 1) ∧ ({ cfg0 with maxSeg := 7 } : Cfg).legal = true ∧
    ({ cfg0 with maxSeg := 7 } : Cfg).maxSeg ≤ 7 ∧ ({ cfg0 with maxSeg := 24 } : Cfg).legal = true ∧
    23 < ({ cfg0 with maxSeg := 24 } : Cfg).maxSeg ∧ boot.reg.txBufEmpty = true ∧
    (boot.setReg { boot.reg with txBufEmpty := false }).reg.txBufEmpty = false := by decide

/-- No action, each action, and both. -/
theorem witness_CtrlWritesAct :
    ((0x00000003#32).getLsbD 16 && (0x00000003#32).getLsbD 0) = false ∧
    ((0x00020002#32).getLsbD 17 && (0x00020002#32).getLsbD 1) = true ∧
    ((0x00010001#32).getLsbD 16 && (0x00010001#32).getLsbD 0) = true ∧
    ((0x00030003#32).getLsbD 16 && (0x00030003#32).getLsbD 0) = true := by decide

theorem witness_BusyEngineRefusesWrites :
    (running 0 1 1 .done boot).bus.phase = .busy ∧ 7 < (running 0 1 1 .done boot).cfg.maxSeg ∧
    (Instr.wrCmdbuf 1).access = some (.wr (.plain .cmdbuf) 1) ∧
    (Instr.wrTiming 1).access = some (.wr (.masked .timing) 1) := by decide

/-- A whole word, the top bit, no bit, and a field that leaves the word by one bit. -/
theorem witness_FieldsAreReadAndReplaced :
    (1 ≤ (32 : Byte).toNat ∧ (0 : Byte).toNat + (32 : Byte).toNat ≤ 32) ∧
    (1 ≤ (1 : Byte).toNat ∧ (31 : Byte).toNat + (1 : Byte).toNat ≤ 32) ∧
    ¬ (1 ≤ (0 : Byte).toNat ∧ (0 : Byte).toNat + (0 : Byte).toNat ≤ 32) ∧
    ¬ (1 ≤ (3 : Byte).toNat ∧ (30 : Byte).toNat + (3 : Byte).toNat ≤ 32) := by decide

theorem witness_CmdEncodeProgramsTheCommand :
    (63 : Byte).toNat ≤ 63 ∧ boot.bus.phase = .idle ∧ 63 < (64 : Byte).toNat := by decide

theorem witness_EncodedCommandReachesTheCard :
    ∃ t u, exec (.cmdEncode 63 0xFFFFFFFF .r48 false) boot = .next t ∧ exec .bTrigger t = .next u := ⟨_, _, rfl, rfl⟩

/-- A 136-bit response in the window and the stream (P3). -/
def threeWindows : State :=
  responded 0x3F010203 0x0405 [6, 7, 8, 9, 0xA, 0xB, 0xC, 0xD, 0xE, 0xF, 0x10, 0xFF]
    (holding { plainReq 2 0 .r136 with stop := some (cmdOf 12 0 .r48b) } .waitingPoll boot)

/-- For `RspGet48Repacks` and `RspGet136Reassembles`. -/
theorem witness_responses :
    currentCmd threeWindows .primary = some (cmdOf 2 0 .r136) ∧ currentCmd threeWindows .stop = some (cmdOf 12 0 .r48b) ∧
    (threeWindows.host.mrq.bind fun r => selectCmd r .stop) = some (cmdOf 12 0 .r48b) ∧
    (holding (plainReq 2 0 .r136) .waitingPoll boot).reg.rspBufFull = false ∧ boot.reg.error = false ∧
    0 < boot.cfg.waitTimeout ∧
    threeWindows.actor ≠ .b ∧ threeWindows.reg.rspBufFull = true ∧
    threeWindows.reg.rspHi = 0x3F#8 ++ 1#8 ++ 2#8 ++ 3#8 ∧ threeWindows.reg.rspLo = 4#8 ++ 5#8 ∧
    threeWindows.bus.rspStream = [6, 7, 8, 9, 0xA, 0xB, 0xC, 0xD, 0xE, 0xF, 0x10, 0xFF] := by decide

/-- A wait that fails on the error state, one that fails at its deadline, and one that goes on. -/
theorem witness_DecodersAbortSilently :
    (failed 1 0 boot).reg.rspBufFull = false ∧ (failed 1 0 boot).reg.error = true ∧
    (boot.setNow 100).reg.error = false ∧ 100 ≤ (boot.setNow 100).now ∧ (boot.setNow 99).now < 100 ∧
    (currentCmd (holding (plainReq 13 0 .r48) .finishing (failed 1 0 boot)) .primary).isSome = true := by decide

/-- The least and the greatest block size and count. -/
theorem witness_DataCfgProgramsTheTransfer :
    boot.cfg.legal = true ∧ currentData (holding read512 .preparing boot) = read512.data ∧
    (holding read512 .preparing boot).bus.phase = .idle ∧ (1 ≤ 65536 ∧ 65536 ≤ 2 ^ boot.cfg.blksizeW) ∧
    (1 ≤ 1 ∧ 65536 ≤ 2 ^ boot.cfg.blkcntW) ∧ boot.host.path = .dma ∧ bootPio.host.path = .pio := by decide

/-- A request whose mapping has `n` segments of one sector. -/
def segmentsReq (dir : Dir) (n : Nat) : Request :=
  dataReq 18 0 (dataOf dir 512 n ((List.range n).map fun k => ⟨BitVec.ofNat 32 (0x1000 * k), 512⟩))

/-- Exactly `MAX_SEG` segments (P6), and the greatest slot: 65535 sectors. -/
theorem witness_DataCfgDmaBuildsTheTable :
    currentData (holding (segmentsReq .rd 8) .preparing boot) = (segmentsReq .rd 8).data ∧
    ((segmentsReq .rd 8).data.map fun d => (dmaMap boot d.sg d.dir).length) = some 8 ∧
    ((segmentsReq .rd 8).data.map fun d =>
      (dmaMap boot d.sg d.dir).all fun m => decide (0 < m.len ∧ m.len % 512 = 0 ∧ m.len / 512 ≤ 65535 ∧
        m.addr.toNat + m.len ≤ 2 ^ boot.cfg.addrW)) = some true ∧
    ((segmentsReq .rd 8).data.map fun d => mappedLength (dmaMap boot d.sg d.dir)) = some (512 * 8) ∧
    (0 < 65535 * 512 ∧ 65535 * 512 % 512 = 0 ∧ 65535 * 512 / 512 ≤ 65535) ∧
    0xFFFFFE00 + 512 ≤ 2 ^ boot.cfg.addrW ∧ 2 ^ boot.cfg.addrW < 0xFFFFFE01 + 512 := by decide

/-- The last sector of the DMA address space, and one byte further (R87). -/
theorem test_mapping_at_the_end :
    after (exec .dataCfgDma (holding (dataReq 18 0 (dataOf .rd 512 1 [⟨0xFFFFFE00, 512⟩])) .preparing boot))
      (fun t => t.reg.slot 0 == ⟨0xFFFFFE00, 1⟩) = true ∧
    exec .dataCfgDma (holding (dataReq 18 0 (dataOf .rd 512 1 [⟨0xFFFFFE01, 512⟩])) .preparing boot) =
      .refused .mappingNotExpressible := ⟨by decide, rfl⟩

/-- A mapping of four bytes in a configuration with one-byte sectors. -/
def smallWrite : State :=
  (holding (dataReq 24 0 (dataOf .wr 4 1 [⟨0x1000, 4⟩])) .preparing
    ({ boot with cfg := { cfg0 with sectorSize := 1 } } : State)).setBufMem [(0x1000, 0xDE), (0x100001000, 0xAD)]

/-- For the second part of `DataCfgDmaBuildsTheTable`. -/
theorem witness_the_hand_over :
    smallWrite.memoryCanonical ∧ smallWrite.host.dmaMapped = none ∧
    after (exec .dataCfgDma smallWrite) (fun t => t.host.dmaMapped == some [⟨0x1000, 4⟩] &&
      t.dmaMem == [(0x1000, 0xDE), (0x1001, 0xAD)]) = true ∧
    (mappedKeys [⟨0x1000, 4⟩]).Nodup ∧ (mappedKeys [⟨0x1000, 4⟩]).length = (bufKeys [⟨0x1000, 4⟩]).length :=
  ⟨⟨by decide, by decide⟩, by decide, by decide, by decide, by decide⟩

/-- No segment, and one more than `MAX_SEG`, of a write and of a read; the bytes of the read's buffers are distinct. -/
theorem witness_OversizedMappingFails :
    (dmaMap boot [] .rd) = [] ∧
    ((segmentsReq .wr 9).data.map fun d => decide (boot.cfg.maxSeg < (dmaMap boot d.sg d.dir).length)) = some true ∧
    (currentData overCapacity).map DataDesc.dir = some .rd ∧
    overCapacity.cfg.maxSeg < (dmaMap overCapacity [⟨0x1000, 2⟩, ⟨0x2000, 2⟩] .rd).length ∧
    overCapacity.bufMem.wf = true ∧ overCapacity.dmaMem.wf = true ∧ (bufKeys [⟨0x1000, 2⟩, ⟨0x2000, 2⟩]).Nodup := by
  decide

/-- A word waits in `DATA_RX`. -/
def received : State := (boot.setReg { boot.reg with rxBufFull := true }).setBus { boot.bus with rxFifo := [0x04030201] }

theorem witness_PioWordsMove :
    boot.reg.txBufEmpty = true ∧ received.memoryCanonical ∧ received.reg.rxBufFull = true ∧
    received.bus.rxFifo = (4#8 ++ 3#8 ++ 2#8 ++ 1#8) :: [] := ⟨rfl, ⟨rfl, rfl⟩, rfl, by decide⟩

/-- The last word of a segment and the one before it; a failed word under each abort scope. -/
theorem witness_PioTransferPumps :
    currentData (holding read8 .waitingPoll bootPio) = read8.data ∧ 0 < 8 ∧ (actorCtx boot).ret = 0 ∧ 0 + 4 < 8 ∧
    8 ≤ 4 + 4 ∧ (actorCtx (returnCode (-1) boot)).ret ≠ 0 ∧ boot.cfg.pioAbortScope = .segment ∧
    ({ cfg0 with pioAbortScope := .transfer } : Cfg).pioAbortScope = .transfer ∧
    (failed 8 0 (boot.setReg { boot.reg with txBufEmpty := false })).reg.error = true ∧
    (failed 8 0 (boot.setReg { boot.reg with txBufEmpty := false })).reg.txBufEmpty = false ∧
    (failed 8 0 boot).reg.rxBufFull = false ∧ boot.bufMem.wf = true ∧
    ((List.range (8 - 4)).map (fun o => bufKey 0x1000 (4 + o)) ++ bufKeys [⟨0x2000, 4⟩]).Nodup := by decide

/-- A read aborted at byte 4 of its first segment: the bytes behind it are free, and the pump goes on with the second
segment, or ends (R253, U10). -/
theorem test_aborted_read :
    abortedKeys .segment 4 [⟨0x1000, 8⟩, ⟨0x2000, 4⟩] =
      [bufKey 0x1000 4, bufKey 0x1000 5, bufKey 0x1000 6, bufKey 0x1000 7] ∧
    (abortedKeys .transfer 4 [⟨0x1000, 8⟩, ⟨0x2000, 4⟩]).length = 8 ∧
    (abortAt .rd 4 [⟨0x1000, 8⟩] boot).draws = boot.draws + 4 := by decide

theorem witness_SubmitTakesTheMutex :
    boot.host.attached = true ∧ boot.host.clockSet = true ∧ boot.host.timingSet = true ∧
    requestWellFormed boot.cfg boot.host.path read512 = true ∧ boot.host.lock = .free ∧
    (holding read512 .waitingPoll boot).host.lock = .held ∧ 63 < (plainReq 64 0 .r48).cmd.opcode.toNat ∧
    State.reset.host.clockSet = false ∧ (cmdOf 64 0 .r48b).opcode.toNat = 64 ∧
    { cmdOf 12 0 .r48b with retries := 1 }.retries ≠ 0 := by decide

/-- A stop command with an opcode above 63, and a byte count that is not 0, are refused. -/
theorem test_ill_formed_requests :
    exec (.submit { read512 with stop := some (cmdOf 64 0 .r48b) }) boot = .refused .illFormedRequest ∧
    exec (.submit { read512 with data := read512.data.map fun d => { d with bytesXfered := 1 } }) boot =
      .refused .illFormedRequest := ⟨rfl, rfl⟩

/-- A pending cancel request meets a submission while the mutex is held, and while it is free. -/
theorem witness_CancelledSubmitTouchesNothing :
    fetchInstr cfg0 .seq (0x30 :: requestBytes 0 0 0 0) = .ok (.submit (plainReq 0 0 .none), []) ∧
    0 ∈ (boot.setCancels [0]).cancels ∧ requestWellFormed cfg0 .dma (plainReq 0 0 .none) = true ∧
    boot.host.attached = true ∧ boot.host.clockSet = true ∧ boot.host.timingSet = true ∧ boot.host.lock = .free ∧
    (holding read512 .waitingPoll boot).host.lock = .held ∧
    (getCtx (pushFrames [.tailFinish] boot) (.p 0)).stack ≠ [] ∧
    (next (.signal 0) boot).sched = [.signal 0] ∧
    (getCtx (pushFrames [.blocked (.submit read512)] boot) (.p 0)).stack = [.blocked (.submit read512)] ∧
    (getCtx boot (.p 0)).stack = [] :=
  ⟨rfl, by decide, by decide, rfl, rfl, rfl, rfl, rfl, by decide, rfl, rfl, rfl⟩

/-- The hypotheses of `PathsTriggerAndWait` for one path. -/
def pathHypotheses (s : State) (r : Request) (k : BitVec 7) (row : PathRow) : Bool :=
  s.bus.phase == .idle && decide (s.bus.readyAt ≤ s.now) && s.host.tc == .preparing && s.host.mrq == some r &&
    dispatchKey s.cfg s.host.path s.host.useInt r == k && !reservedMode s.reg.config && reqRow k == some row &&
    r.data.all fun d => d.error != .dmaMap

/-- `boot` with interrupts in use. -/
def bootInt : State := boot.setHost { boot.host with useInt := true }

/-- One request and Host for each path, and a state `TRIGGER` refuses. -/
theorem witness_PathsTriggerAndWait :
    pathHypotheses (holding (plainReq 2 0 .r136) .preparing bootInt) (plainReq 2 0 .r136) 0x42 .r136 = true ∧
    pathHypotheses (holding read8 .preparing bootPio) read8 0x30 .dataPio = true ∧
    pathHypotheses (holding read512 .preparing bootInt) read512 0x36 .dataDmaIrqCmd = true ∧
    pathHypotheses (holding (segmentsReq .rd 3) .preparing boot) (segmentsReq .rd 3) 0x35 .dataDmaIrqThr = true ∧
    pathHypotheses (holding (segmentsReq .rd 2) .preparing boot) (segmentsReq .rd 2) 0x34 .dataDmaPoll = true ∧
    pathHypotheses (holding (plainReq 13 0 .r48) .preparing bootInt) (plainReq 13 0 .r48) 0x22 .nodataIrq = true ∧
    pathHypotheses (holding (plainReq 0 0 .none) .preparing boot) (plainReq 0 0 .none) 0x00 .nodataPoll = true ∧
    boot.host.tc ≠ .preparing := by decide

/-- A request whose mapping has failed, and one with a stop command. -/
def unmapped : Request := { read512 with data := read512.data.map fun d => { d with error := .dmaMap } }
def stopped : Request := { read512 with stop := some (cmdOf 12 0 .r48b) }

/-- For `SubmitBranches`, `TailReleasesAndNotifies`, `StopIsSentAndChecked`. -/
theorem witness_endings :
    (holding read512 .preparing boot).host.mrq = some read512 ∧ read512.cmd.rsp ≠ .r136 ∧ read512.data.isSome = true ∧
    (plainReq 2 0 .r136).cmd.rsp = .r136 ∧ (plainReq 0 0 .none).data = none ∧
    boot.actor = .p 0 ∧ boot.host.lock = .free ∧ (holding read512 .preparing boot).host.lock = .held ∧
    (actorCtx (returnCode (-1) boot)).ret ≠ 0 ∧ (actorCtx boot).ret = 0 ∧
    (unmapped.data.map DataDesc.error) = some .dmaMap ∧ (holding unmapped .preparing boot).host.tc = .preparing ∧
    currentCmd (holding stopped .finishing boot) .stop = some (cmdOf 12 0 .r48b) ∧
    (holding stopped .finishing (failed 1 0 boot)).reg.error = true ∧
    (holding stopped .finishing boot).host.waitFailed = false := by decide

/-- A read of four bytes, three of which the engine had written when a soft reset came. -/
def arrived : State :=
  (((holding (dataReq 18 0 (dataOf .rd 4 1 [⟨0x1000, 4⟩])) .waitingInterrupt boot).setHost
    { (holding (dataReq 18 0 (dataOf .rd 4 1 [⟨0x1000, 4⟩])) .waitingInterrupt boot).host with
      dmaMapped := some [⟨0x2000, 4⟩] }).setBus { boot.bus with arrived := 3 }).setDmaMem [(0x2000, 7), (0x2002, 9)]

theorem witness_FinishClaimsOnceAndUnmaps :
    boot.host.irqLock = .free ∧ boot.host.mrq = none ∧ (holding read512 .finishing boot).host.tc = .finishing ∧
    arrived.host.irqLock = .free ∧ arrived.host.mrq.isSome = true ∧ arrived.host.tc ≠ .finishing ∧
    arrived.memoryCanonical ∧ (bufKeys [⟨0x1000, 4⟩]).Nodup ∧
    (mappedKeys [⟨0x2000, 4⟩]).length = (bufKeys [⟨0x1000, 4⟩]).length ∧ 2 < arrived.bus.arrived :=
  ⟨rfl, rfl, rfl, rfl, rfl, by decide, ⟨by decide, by decide⟩, by decide, by decide, by decide⟩

/-- A wait that goes on, and a configuration without a timeout. -/
theorem witness_WaitsTestBitErrorDeadline :
    readBit .txBufEmpty boot.reg = true ∧ readBit .finished boot.reg = false ∧ boot.reg.error = false ∧
    (failed 1 0 boot).reg.error = true ∧ 0 < boot.cfg.waitTimeout ∧ ({ cfg0 with waitTimeout := 0 } : Cfg).waitTimeout = 0 ∧
    boot.now < 1 ∧ 0 ≤ boot.now := by decide

/-- The second hypothesis of `FailedTransactionIsClassified`, with the code and the delay of the failure. -/
def failureHypothesis (s : State) (r : Request) (e : ErrorCode) (x : Option DelayName) : Bool :=
  (s.reg.error && classifyStatus s.cfg r.data.isSome s.reg.errBits s.reg.crcToken == (e, x)) ||
    (!s.reg.error && s.host.waitFailed && (r.cmd.rsp == .r136 || s.cfg.timeoutNoErrbit == .waitTimeout) &&
      e == .waitTimeout && x == none)

/-- For `CleanTransactionSucceeds` and `FailedTransactionIsClassified`: the first and the last arm of the classifier, the
unclassified state, a wait timeout, and a clean transaction. -/
theorem witness_classified :
    failureHypothesis (holding read512 .finishing (failed 0x3F 0 boot)) read512 .rspTimeout (some .wrCmd) = true ∧
    failureHypothesis (holding read512 .finishing (failed 0x20 5 boot)) read512 .crcToken (some .wrDat) = true ∧
    failureHypothesis (holding (plainReq 13 0 .r48) .finishing (failed 0x3C 0 boot)) (plainReq 13 0 .r48) .none none = true ∧
    failureHypothesis (holding read512 .finishing (waitFailure boot)) read512 .waitTimeout none = true ∧
    (holding read512 .finishing boot).host.mrq = some read512 ∧ boot.reg.error = false ∧ boot.host.waitFailed = false ∧
    ({ cfg0 with timeoutNoErrbit := .success } : Cfg).timeoutNoErrbit = .success ∧ read512.cmd.rsp ≠ .r136 := by decide

/-- For `DelayBumpWraps`, `SoftResetClearsAndSettles`, `TimingWritebackWritesFiveLanes`. -/
theorem witness_tuning :
    boot.delaysFit ∧ boot.reservedZero ∧ boot.cfg.legal = true ∧ boot.bus.phase = .idle ∧ 0 ≤ boot.now ∧ boot.now < 1 :=
  ⟨⟨by decide, by decide, by decide, by decide, by decide⟩, ⟨by decide, by decide, by decide, by decide, zero_slots⟩,
    by decide⟩

/-- For `InterruptEntrySelectsTheArms` and `InterruptArmsAndDeferredUnit`. -/
theorem witness_interrupts :
    boot.plat.irqBound = true ∧ boot.i.stack = [] ∧ (pushFrames [.call .irqCard] (boot.setActor .i)).i.stack ≠ [] ∧
    boot.host.irqLock = .free ∧ boot.host.mrq = none ∧ (holding stopped .waitingInterrupt boot).host.mrq = some stopped ∧
    (holding stopped .waitingInterrupt boot).host.tc = .waitingInterrupt ∧ stopped.stop.isSome = true ∧
    read512.stop = none ∧ boot.host.deferred = false ∧
    (boot.setHost { boot.host with deferred := true }).host.deferred = true := by decide

/-- For `EntryPointsSetTheHost` and `AttachAndDetach`. -/
theorem witness_entry_points :
    boot.bus.phase = .idle ∧ boot.host.lock = .free ∧ (holding read512 .waitingPoll boot).host.lock = .held ∧
    boot.host.tc = .idle ∧ (0x80000000 : Word).toNat % 4 = 0 ∧ (0x80000002 : Word).toNat % 4 ≠ 0 ∧
    (holding read512 .waitingPoll boot).host.tc ≠ .idle ∧ boot.plat.available = true ∧
    (boot.setPlat { boot.plat with available := false }).plat.available = false := by decide

/-- The first clock value at which a trigger is legal, and the one before it; the reserved mode. -/
theorem witness_TriggerLatchesAndSends :
    boot.bus.phase = .idle ∧ boot.bus.readyAt ≤ boot.now ∧ (softReset boot).bus.readyAt = 10 ∧
    ((softReset boot).setNow 9).now < (softReset boot).bus.readyAt ∧ (0x68#16).getLsbD 3 = true ∧
    (0x68#16).extractLsb' 5 2 = 0b11#2 := by decide

theorem witness_ResponseFillsTheWindow :
    (running 0xD 8 1 .waiting boot).bus.phase = .busy ∧ (running 0xD 8 1 .waiting boot).bus.rspPhase = .waiting ∧
    (running 0xD 8 1 .waiting boot).reg.rspBufFull = false ∧ (0xD#16).getLsbD 1 = false ∧ (0x3#16).getLsbD 1 = true ∧
    (running 0xD 8 1 .done boot).bus.rspPhase ≠ .waiting ∧ (List.replicate 11 (0 : Byte)).length = 11 := by decide

/-- The last byte of a slot and of the transfer; a table without slots refuses it. -/
theorem witness_DmaBytesMoveAtTheWalk :
    let s := running 0xDD 512 1 .done ((boot.setReg { boot.reg with
      slots := [⟨0x80001000, 1⟩] }).setBus { boot.bus with dmaOff := 511, moved := 511 })
    s.memoryCanonical ∧ s.bus.phase = .busy ∧ s.bus.latched = some ⟨0, 0, 0xDD, 511, 0, 0⟩ ∧ s.bus.dataFailed = false ∧
    s.bus.rspPhase = .done ∧ (0xDD#16).getLsbD 3 = true ∧ (0xDD#16).getLsbD 8 = false ∧ s.bus.dmaSlot = 0 ∧
    s.bus.moved < (511 + 1) * (0 + 1) ∧ (0xDD#16).extractLsb' 5 2 = 0b10#2 ∧ (0xDD#16).getLsbD 7 = true ∧
    (0 < s.cfg.maxSeg ∧ (s.reg.slot 0).sectors ≠ 0 ∧ (s.reg.slot 0).addr.toNat + 511 < 2 ^ s.cfg.addrW) ∧
    (boot.reg.slot 0).sectors = 0 ∧ s.cfg.maxSeg ≤ 8 ∧ (0x5D#16).getLsbD 7 = false ∧ (0x3D#16).extractLsb' 5 2 = 0b01#2 :=
  ⟨⟨by decide, by decide⟩, by decide⟩

/-- For the second and the third part of `DmaBytesMoveAtTheWalk`. -/
theorem witness_several_dma_bytes :
    (∃ t, exec (.bDataDma (.read [7, 9])) (running 0xDD 512 1 .done ((boot.setReg { boot.reg with
      slots := [⟨0x80001000, 1⟩] }))) = .next t) ∧
    ∃ t, exec (.bDataDma (.take 2)) (running 0x3D 512 1 .done ((boot.setReg { boot.reg with
      slots := [⟨0x80001000, 1⟩] }))) = .next t := ⟨⟨_, rfl⟩, ⟨_, rfl⟩⟩

/-- The bytes the engine has written stay counted through a soft reset (20_memory.md R90). -/
theorem test_arrived_bytes_stay :
    after (andThen (exec (.bDataDma (.read [7, 9])) (running 0xDD 512 1 .done ((boot.setReg { boot.reg with
      slots := [⟨0x80001000, 1⟩] })))) (exec .bSwReset)) (fun t => t.bus.arrived == 2 && t.bus.moved == 0) = true := by
  decide

/-- A walk past the last slot, and past the eighth one. -/
theorem test_missing_slots :
    exec (.bDataDma (.read [7])) (running 0xDD 512 16 .done (boot.setBus { boot.bus with dmaSlot := 8 })) =
      .refused .slotWalk ∧
    after (exec (.bDataDma (.read [7])) (running 0xDD 512 16 .done
        ({ boot with cfg := { cfg0 with maxSeg := 9 }
                     reg := boot.reg.setSlot 8 ⟨0x1000, 1⟩, bus := { boot.bus with dmaSlot := 8 } } : State)))
      (fun t => t.dmaMem == [(0x1000, 7)]) = true := ⟨rfl, by decide⟩

theorem witness_PioWordPassesTheEngine :
    (running 0x3DD 8 1 .waiting boot).bus.phase = .busy ∧ (running 0x3DD 8 1 .waiting boot).bus.dataFailed = false ∧
    (running 0x3DD 8 1 .waiting boot).bus.rspPhase = .waiting ∧ (0x3DD#16).getLsbD 3 = true ∧
    (0x3DD#16).getLsbD 8 = true ∧ (0x3DD#16).extractLsb' 5 2 = 0b10#2 ∧ (0x33D#16).extractLsb' 5 2 = 0b01#2 ∧
    (running 0x3DD 8 1 .waiting boot).bus.moved < (7 + 1) * (0 + 1) ∧ boot.reg.rxBufFull = false ∧
    received.reg.rxBufFull = true := by decide

/-- A transaction without data, and one that has moved its last byte. -/
theorem witness_CleanEndFinishes :
    (running 0 1 1 .done boot).bus.phase = .busy ∧ (running 0 1 1 .done boot).bus.rspPhase = .done ∧
    (0#16).getLsbD 3 = false ∧ (511 + 1) * (0 + 1) ≤ (running 0xDD 512 1 .done
      (boot.setBus { boot.bus with moved := 512 })).bus.moved ∧ boot.reg.rxBufFull = false ∧
    (running 0xD 8 1 .timedOut boot).bus.rspPhase ≠ .done := by decide

/-- One bit of each phase, all data bits, and both response bits. -/
theorem witness_ErrorEndSetsTheErrorState :
    endContract 0xDD .done false 0x3C = true ∧ endContract 0xD .timedOut false 1 = true ∧
    endContract 0xD .badCrc false 3 = true ∧ (0x20#6).getLsbD 5 = true ∧ (0x3C#6).getLsbD 5 = true ∧
    (0#16).getLsbD 0 = false ∧ (1#6).getLsbD 0 = true ∧ (0x3#16).getLsbD 2 = false ∧ (2#6).getLsbD 1 = true ∧
    (0x4#16).getLsbD 0 = false ∧ (0x7#16).getLsbD 1 = true ∧ endContract 0xDD .done false 1 = true ∧
    (running 0xD 8 1 .waiting boot).bus.rspPhase = .waiting ∧ (2#6).getLsbD 0 = false ∧
    1#6 &&& 0x3C#6 = 0#6 ∧ (cfgDataPhase 0xDD).isSome = true ∧
    (running 0xDD 512 1 .done boot).bus.moved < (511 + 1) * (0 + 1) := by decide

/-- No CRC7 error where no response is expected or before it has come, and none in a 136-bit response (R421). -/
theorem test_no_crc_check :
    endContract 0x4 .done false 2 = false ∧ endContract 0x7 .done false 2 = false ∧
    endContract 0xD .waiting false 2 = false ∧ endContract 0xD .waiting false 1 = true ∧
    after (exec (.bRsp (.bytes (List.replicate 17 0) false)) (running 0x7 1 1 .waiting boot))
      (fun t => t.bus.rspPhase == .done) = true := by decide

end Sys2Proof.Tests
end

section
/-! PROOFS. The statements of 00_scope.md: what one step does with the next event, and who may start what. -/

namespace Sys2Proof.Machine

/-! ### Fetching (00_scope.md R7, 30_encoding.md R121) -/

/-- Only format `MMIO` looks at the place of a register. -/
theorem fetchInstr_of_ne_mmio (c : Cfg) {f : Format} (bytes : List Byte) (hf : f ≠ .mmio) :
    fetchInstr c f bytes = decode f bytes := by
  cases f with
  | mmio => exact absurd rfl hf
  | req => rfl
  | seq => rfl

/-- The place of a register in a legal configuration fits the offset bits of an `MMIO` key. -/
theorem offsetIn_lt_of_legal {c : Cfg} (hc : c.legal = true) {ref : Nat} (hr : ref ∈ refOffsets) :
    offsetIn c.moved ref < 256 := by
  simp only [Cfg.legal, Bool.and_eq_true, List.all_eq_true, decide_eq_true_eq] at hc
  obtain ⟨⟨⟨⟨⟨⟨⟨⟨⟨⟨⟨⟨⟨⟨⟨⟨-, places⟩, -⟩, -⟩, -⟩, -⟩, -⟩, -⟩, -⟩, -⟩, -⟩, -⟩, -⟩, -⟩, -⟩, -⟩, -⟩ := hc
  exact (places _ (List.mem_map_of_mem hr)).2

/-- The register at a place is decoded under the number that R121 gives it. -/
theorem fetchInstr_offsetIn {c : Cfg} (hc : c.legal = true) {ref : Nat} (hr : ref ∈ refOffsets) (bytes : List Byte) :
    fetchInstr c .mmio (BitVec.ofNat 8 (offsetIn c.moved ref) :: bytes) =
      decode .mmio (BitVec.ofNat 8 ref :: bytes) := by
  have hplace : (BitVec.ofNat 8 (offsetIn c.moved ref)).toNat = offsetIn c.moved ref := by
    rw [BitVec.toNat_ofNat, Nat.mod_eq_of_lt (offsetIn_lt_of_legal hc hr)]
  simp only [fetchInstr, hplace, refAt_offsetIn hc hr]

/-! ### Taking the next event (entry 1) -/

/-- With nothing scheduled the machine waits. -/
theorem step_nil {s : State} (hs : s.sched = []) : step s = .next s := by
  simp [step, stepWith, hs]

/-- With an event next, that event is taken, and the schedule moves on. -/
theorem step_cons {s : State} {e : Event} {es : List Event} (hs : s.sched = e :: es) :
    step s = takeEvent exec e (s.setSched es) := by
  simp [step, stepWith, hs]

/-- An event that starts an operation starts what its bytes decode to. -/
theorem step_run {s : State} {a : Agent} {f : Format} {bytes rest : List Byte} {i : Instr} {es : List Event}
    (hs : s.sched = .run a f bytes :: es) (hf : fetchInstr s.cfg f bytes = .ok (i, rest)) :
    step s = startInstr exec a i (s.setSched es) := by
  simp [step_cons hs, takeEvent, startBytes, hf]

/-- The context of an agent that has just become the acting one is its own. -/
theorem actorCtx_setActor (s : State) (a : Agent) : actorCtx (s.setActor a) = getCtx s a := by
  cases a <;> rfl

/-- The schedule is no part of a context. -/
theorem getCtx_setSched (s : State) (es : List Event) (a : Agent) : getCtx (s.setSched es) a = getCtx s a := by
  cases a <;> rfl

/-- An agent with nothing to do lets its turn pass (entry 23). -/
theorem resumeAgent_nil {run : Instr → State → Res} {a : Agent} {s : State} (h : (getCtx s a).stack = []) :
    resumeAgent run a s = .next s := by
  simp [resumeAgent, h]

/-- The turn of an agent inside an operation runs the top of its stack. -/
theorem resumeAgent_cons {run : Instr → State → Res} {a : Agent} {s : State} {f : Frame} {fs : List Frame}
    (h : (getCtx s a).stack = f :: fs) (hatt : s.host.attached = true) :
    resumeAgent run a s = runFrame run f (popFrame fs (s.setActor a)) := by
  simp [resumeAgent, resumeActor, actorCtx_setActor, h, hatt]

/-! ### U's writes of its buffers (70_reset_and_hazards.md R521, entry 48) -/

/-- The scatter list of a Request holds a buffer when one of its segments names it. -/
theorem holdsBuffer_iff (buf : Word) (r : Request) :
    Request.holdsBuffer buf r = true ↔ ∃ d g, r.data = some d ∧ g ∈ d.sg ∧ g.buf = buf := by
  simp [Request.holdsBuffer, Option.any_eq_true]

/-- A frame stands for a Request with a property when it is the acquire of its `SUBMIT` or its `NOTIFY`. -/
theorem frameRequest_any_iff (f : Frame) (p : Request → Bool) :
    (frameRequest f).any p = true ↔ ∃ r, p r = true ∧ (f = .blocked (.submit r) ∨ f = .call (.notify r)) := by
  rw [Option.any_eq_true]
  exact exists_congr fun r => by rw [frameRequest_iff, and_comm]

/-- The stacks of the listed contexts hold the Requests that are not recorded yet, or not notified yet. -/
theorem bufferInRequest_iff (buf : Word) (s : State) :
    bufferInRequest buf s = true ↔
      (∃ r, s.host.mrq = some r ∧ Request.holdsBuffer buf r = true) ∨
      ∃ a r, Request.holdsBuffer buf r = true ∧
        (Frame.blocked (.submit r) ∈ (getCtx s a).stack ∨ Frame.call (.notify r) ∈ (getCtx s a).stack) := by
  rw [bufferInRequest, Bool.or_eq_true, Option.any_eq_true]
  refine or_congr Iff.rfl ?_
  simp only [List.any_eq_true, frameRequest_any_iff]
  rw [exists_on_stack_iff]
  refine exists_congr fun a => ⟨?_, ?_⟩
  · rintro ⟨f, hf, r, hr, rfl | rfl⟩
    · exact ⟨r, hr, .inl hf⟩
    · exact ⟨r, hr, .inr hf⟩
  · rintro ⟨r, hr, hf | hf⟩
    · exact ⟨_, hf, r, hr, .inl rfl⟩
    · exact ⟨_, hf, r, hr, .inr rfl⟩

/-- A buffer is out of U's hands while a Request on the DMA path holds it. -/
theorem bufferMapped_iff (buf : Word) (s : State) :
    bufferMapped buf s = true ↔
      (s.host.path = .dma ∨ s.host.dmaMapped ≠ none) ∧ bufferInRequest buf s = true := by
  simp [bufferMapped, or_comm, Option.isSome_iff_ne_none]

/-- The schedule does not matter to whom a buffer belongs. -/
theorem bufferMapped_setSched (buf : Word) (s : State) (es : List Event) :
    bufferMapped buf (s.setSched es) = bufferMapped buf s := rfl

/-- A write of a buffer that is out of U's hands is refused. -/
theorem upstreamWrite_mapped {buf : Word} {s : State} (h : bufferMapped buf s = true) (off : Nat) (v : Byte) :
    upstreamWrite buf off v s = .refused .bufferMapped := if_pos h

/-- Any other write by U is done. -/
theorem upstreamWrite_unmapped {buf : Word} {s : State} (h : ¬ bufferMapped buf s = true) (off : Nat) (v : Byte) :
    upstreamWrite buf off v s = .next (s.setBufMem (s.bufMem.write (bufKey buf off) v)) := if_neg h

/-! ### Who may start an operation, and when (00_scope.md R4, entries 22, 41, 42) -/

/-- The interrupt operations are the interrupt unit's alone (48_interrupt_deferred.md R371). -/
theorem interruptOnly_alone {a : Agent} {i : Instr} (h : interruptOnly i = true) (ha : a ≠ .i) :
    agentMayRun a i = false := by
  have hrole : roleOf i = .irqEntry ∨ roleOf i = .interrupt := by simpa [interruptOnly] using h
  cases a with
  | p tid => simp [agentMayRun, h]
  | i => exact absurd rfl ha
  | w => rcases hrole with hr | hr <;> simp [agentMayRun, deferredMayRun, hr]
  | b => rcases hrole with hr | hr <;> simp [agentMayRun, engineOnly, hr]

/-- `DEFERRED_FINISH` is the deferred unit's alone (48_interrupt_deferred.md R374). -/
theorem deferredFinish_alone {a : Agent} (ha : a ≠ .w) : agentMayRun a .deferredFinish = false := by
  cases a with
  | p tid => rfl
  | i => rfl
  | w => exact absurd rfl ha
  | b => rfl

/-- What the interrupt unit may start is no stop command (48_interrupt_deferred.md R378). -/
theorem not_stopIssue_of_interruptMayRun {i : Instr} (h : agentMayRun .i i = true) : isStopIssue i = false := by
  by_contra hstop
  have hrole : roleOf i = .stop := by simpa [isStopIssue] using hstop
  simp [interrupt_starts_no_wait (.inr hrole)] at h

/-- The register accesses and the typed ones play the parts of an access (60_exceptions.md R466). -/
theorem roleOf_of_register_access {i : Instr} (h : i.access.isSome = true ∨ (∃ r, i = .regRd r) ∨
    (∃ r w, i = .regWr r w) ∨ ∃ m w, i = .regWrMasked m w) : roleOf i = .access ∨ roleOf i = .trigger := by
  rcases h with h | ⟨r, rfl⟩ | ⟨r, w, rfl⟩ | ⟨m, w, rfl⟩
  · obtain ⟨x, hx⟩ := Option.isSome_iff_exists.1 h
    exact roleOf_of_access hx
  · exact .inl rfl
  · exact .inl rfl
  · exact (maskedRole_cases m w).symm

/-- No cancel request is pending for the thread that starts `SUBMIT` (entry 16): none meets the operation. -/
theorem cancelMeets_of_none_pending {a : Agent} {i : Instr} {s : State}
    (h : ∀ tid r, a = .p tid → i = .submit r → tid ∉ s.cancels) : cancelMeets a i s = none := by
  by_cases hi : ∃ r, i = .submit r
  · obtain ⟨r, rfl⟩ := hi
    cases a with
    | p tid => simp [cancelMeets, submittedRequest, h tid r rfl rfl]
    | i => rfl
    | w => rfl
    | b => rfl
  · exact cancelMeets_other s fun r hr => hi ⟨r, hr⟩

/-- An agent outside any operation need not wait, and nobody waits with `IRQ_ENTRY` (entry 41). -/
theorem mustWait_eq_false_iff (a : Agent) (i : Instr) (s : State) :
    mustWait a i s = false ↔ (getCtx s a).stack = [] ∨ i = .irqEntry := by
  rw [← Bool.not_eq_true, mustWait_iff, not_and_or, not_not, not_not]

/-! The stops of `startInstr`, in the order in which it tests for them. -/

section startInstr
variable {run : Instr → State → Res} {a : Agent} {i : Instr} {s : State}

theorem startInstr_wrongAgent (hmay : agentMayRun a i = false) : startInstr run a i s = .refused .wrongAgent := by
  simp [startInstr, hmay]

theorem startInstr_notAttached (hmay : agentMayRun a i = true) (hatt : s.host.attached = false)
    (hi : isAttach i = false) : startInstr run a i s = .refused .notAttached := by
  simp [startInstr, hmay, hatt, hi]

theorem startInstr_agentBusy (hmay : agentMayRun a i = true) (hatt : s.host.attached = true)
    (hbusy : mustWait a i s = true) : startInstr run a i s = .refused .agentBusy := by
  simp [startInstr, hmay, hatt, hbusy]

theorem startInstr_inlineOnly (hmay : agentMayRun a i = true) (hatt : s.host.attached = true)
    (hidle : mustWait a i s = false) (hns : notStarted i s.host.tc = true) :
    startInstr run a i s = .refused .inlineOnly := by
  simp [startInstr, hmay, hatt, hidle, hns]

theorem startInstr_armNotDue (hmay : agentMayRun a i = true) (hatt : s.host.attached = true)
    (hidle : mustWait a i s = false) (hns : notStarted i s.host.tc = false) (harm : armNotDue i s = true) :
    startInstr run a i s = .next s := by
  simp [startInstr, hmay, hatt, hidle, hns, harm]

/-- An operation that its agent may start now, with no cancel request that meets it, runs: none of the tests of a call
stops it. -/
theorem startInstr_runs (hmay : agentMayRun a i = true) (hatt : s.host.attached = true ∨ isAttach i = true)
    (hidle : mustWait a i s = false) (hns : notStarted i s.host.tc = false) (harm : armNotDue i s = false)
    (hcancel : cancelMeets a i s = none) : startInstr run a i s = run i (s.setActor a) := by
  have hcall : MayCall i (s.setActor a) := mayCall_of_started hns fun hact => by
    obtain rfl : a = .i := hact
    exact not_stopIssue_of_interruptMayRun hmay
  rw [startInstr_eq hmay hatt hidle hns harm hcancel, runCall_eq hcall]

end startInstr

/-- An inline operation is not started beside a Request (10_state.md R48). -/
theorem notStarted_of_inlineOnly {i : Instr} {tc : TcState} (hi : inlineOnly i = true) (htc : tc ≠ .idle) :
    notStarted i tc = true := by
  simp [notStarted, hi, htc]

/-- A `FINISH` that would claim the Request is not started by itself (R48). -/
theorem notStarted_finish {tc : TcState} (h1 : tc ≠ .idle) (h2 : tc ≠ .finishing) : notStarted .finish tc = true := by
  simp [notStarted, isFinish_iff, finishGuarded, h1, h2]

/-- The completion arm is not due before its interrupt (48_interrupt_deferred.md R371). -/
theorem armNotDue_irqCmdDone {s : State} (htc : s.host.tc = .waitingInterrupt) (htaken : s.host.cmpTaken = false)
    (hint : s.reg.cmpEn = false ∨ s.reg.cmpPend = false) : armNotDue .irqCmdDone s = true := by
  rcases hint with h | h <;> simp [armNotDue, htc, htaken, h]

/-! ### The statements -/

/-- Settles O1: each condition of the statement meets one test of `startInstr`. -/
theorem stepRunsDecodedInstruction : Obligations.StepRunsDecodedInstruction := by
  refine ⟨?_, ?_, fun c f bytes => fetchInstr_of_ne_mmio c bytes, fun c ref bytes hc hr =>
    fetchInstr_offsetIn hc hr bytes⟩
  · intro s a f bytes rest i es hs hf hmay hatt hidle hinline hfinish harm hcancel
    rw [step_run hs hf]
    refine startInstr_runs hmay hatt ?_ ((notStarted_eq_false_iff ..).2 ⟨hinline, hfinish⟩)
      ((armNotDue_eq_false_iff ..).2 harm) (cancelMeets_of_none_pending hcancel)
    rwa [mustWait_eq_false_iff, getCtx_setSched]
  · intro a i ha hi
    exact access_by_every_context (roleOf_of_register_access hi) ha

/-- Settles O2, one clause for each kind of event. -/
theorem stepTakesTheNextEvent : Obligations.StepTakesTheNextEvent := by
  intro s es
  refine ⟨step_nil, fun d hs => step_cons hs, fun ok hs => step_cons hs, fun a hs hstack => ?_,
    fun a f fs hs hstack hatt => ?_, fun buf off v hs => ?_⟩
  · rw [step_cons hs]
    exact resumeAgent_nil (by rwa [getCtx_setSched])
  · rw [step_cons hs]
    exact resumeAgent_cons (by rwa [getCtx_setSched]) hatt
  · intro holds given
    have hgiven : bufferMapped buf (s.setSched es) = true ↔ given := by
      simp only [bufferMapped_setSched, bufferMapped_iff, bufferInRequest_iff, holdsBuffer_iff, given, holds]
    rw [step_cons hs, ← hgiven]
    refine ⟨fun hm => upstreamWrite_mapped hm off v, fun hm => ⟨_, upstreamWrite_unmapped hm off v, ?_⟩⟩
    rintro ⟨-, hwf⟩
    exact ⟨Memory.read_write_same hwf _ v, fun k hk => Memory.read_write_other hwf v hk⟩

/-- Settles O3: each clause names the test of `startInstr` that stops the operation. -/
theorem forbiddenOperationsAreRefused : Obligations.ForbiddenOperationsAreRefused := by
  intro s a f bytes rest i es hs hf
  rw [step_run hs hf]
  refine ⟨fun h ha => startInstr_wrongAgent (engineOnly_alone h ha), ?_,
    fun h ha => startInstr_wrongAgent (interruptOnly_alone h ha), ?_, ?_, ?_,
    fun hmay hatt hi => startInstr_notAttached hmay hatt hi, fun hmay hatt => ⟨fun hstack hi => ?_, fun hstack => ?_⟩,
    fun t => runFrame_stopIssue_i exec t⟩
  · rintro rfl h
    exact startInstr_wrongAgent h
  · rintro rfl ha
    exact startInstr_wrongAgent (deferredFinish_alone ha)
  · intro ha h
    obtain ⟨hI, hW⟩ := units_start_no_transaction h
    rcases ha with rfl | rfl
    · exact startInstr_wrongAgent hI
    · exact startInstr_wrongAgent hW
  · rintro rfl h
    exact startInstr_wrongAgent (interrupt_starts_no_wait (h.imp_right (roleOf_stopIssue_iff i).2))
  · exact startInstr_agentBusy hmay hatt ((mustWait_iff ..).2 ⟨by rwa [getCtx_setSched], hi⟩)
  · have hidle : mustWait a i (s.setSched es) = false :=
      (mustWait_eq_false_iff ..).2 (.inl (by rwa [getCtx_setSched]))
    refine ⟨fun hi htc => startInstr_inlineOnly hmay hatt hidle (notStarted_of_inlineOnly hi htc), ?_, ?_⟩
    · rintro rfl h1 h2
      exact startInstr_inlineOnly hmay hatt hidle (notStarted_finish h1 h2)
    · rintro rfl htc htaken hint
      exact startInstr_armNotDue hmay hatt hidle rfl (armNotDue_irqCmdDone htc htaken hint)

end Sys2Proof.Machine
end

section
/-! PROOFS. The statements of 10_state.md. First what every operation keeps, said once: each shared operation is walked
through a single time, and the invariants of the step are read off at the end. -/

namespace Sys2Proof.Machine

/-! ### Three relations between a state and a next one -/

/-- What no operation takes back or breaks: each invariant for itself, the canonical form of the memories among them. -/
structure Lasts (s t : State) : Prop where
  continues : s.continues t
  canonical : s.memoryCanonical → t.memoryCanonical
  reserved : s.reservedZero → t.reservedZero
  buffers : s.buffersAgree → t.buffersAgree
  errors : s.errorAgrees → t.errorAgrees
  latched : s.busyLatched → t.busyLatched
  delays : s.delaysFit → t.delaysFit
  spinlock : s.spinlockFree → t.spinlockFree
  modes : s.modeFixed → t.modeFixed
  outstanding : s.oneOutstanding → t.oneOutstanding

/-- An operation that moves no transaction: `tc_state` stays and the engine does not become busy. -/
structure Quiet (s t : State) : Prop extends Lasts s t where
  tc : t.host.tc = s.host.tc
  phase : t.bus.phase = .busy → s.bus.phase = .busy

/-- An operation that, unless it is a bare trigger, has the engine busy only in a triggered transaction, or ends the
transaction under a busy engine (10_state.md R60, entry 42). -/
structure Lawful (bare : Prop) (s t : State) : Prop extends Lasts s t where
  busy : ¬ bare → s.oneOutstanding → s.busyInTransaction →
    t.busyInTransaction ∨ (s.bus.phase = .busy ∧ s.host.tc ≠ .idle ∧ t.host.tc = .idle)

theorem State.continues.refl (s : State) : s.continues s := ⟨rfl, Nat.le_refl _, Nat.le_refl _, [], rfl⟩

theorem State.continues.trans {s u t : State} (h : s.continues u) (k : u.continues t) : s.continues t := by
  obtain ⟨hcfg, hnow, hdraws, sent, hout⟩ := h
  obtain ⟨kcfg, know, kdraws, more, kout⟩ := k
  exact ⟨kcfg.trans hcfg, hnow.trans know, hdraws.trans kdraws, more ++ sent, by rw [kout, hout, List.append_assoc]⟩

theorem Lasts.trans {s u t : State} (h : Lasts s u) (k : Lasts u t) : Lasts s t where
  continues := h.continues.trans k.continues
  canonical := k.canonical ∘ h.canonical
  reserved := k.reserved ∘ h.reserved
  buffers := k.buffers ∘ h.buffers
  errors := k.errors ∘ h.errors
  latched := k.latched ∘ h.latched
  delays := k.delays ∘ h.delays
  spinlock := k.spinlock ∘ h.spinlock
  modes := k.modes ∘ h.modes
  outstanding := k.outstanding ∘ h.outstanding

theorem Quiet.refl (s : State) : Quiet s s :=
  ⟨⟨.refl s, id, id, id, id, id, id, id, id, id⟩, rfl, id⟩

theorem Quiet.trans {s u t : State} (h : Quiet s u) (k : Quiet u t) : Quiet s t :=
  ⟨h.toLasts.trans k.toLasts, k.tc.trans h.tc, h.phase ∘ k.phase⟩

/-- A quiet operation behind another, named last first: what stands behind says what stands before. -/
theorem Quiet.after {s u t : State} (k : Quiet u t) (h : Quiet s u) : Quiet s t := h.trans k

/-- Where no transaction moves, the engine stays busy in a transaction only. -/
theorem Quiet.busyInTransaction {s t : State} (h : Quiet s t) (hs : s.busyInTransaction) : t.busyInTransaction :=
  fun ht => h.tc ▸ hs (h.phase ht)

theorem Quiet.lawful {bare : Prop} {s t : State} (h : Quiet s t) : Lawful bare s t :=
  ⟨h.toLasts, fun _ _ hs => .inl (h.busyInTransaction hs)⟩

/-- Lawful behind a quiet operation. -/
theorem Quiet.transLawful {bare : Prop} {s u t : State} (h : Quiet s u) (k : Lawful bare u t) : Lawful bare s t where
  toLasts := h.toLasts.trans k.toLasts
  busy hbare hone hs := (k.busy hbare (h.outstanding hone) (h.busyInTransaction hs)).imp_right
    fun ⟨hbusy, htc, hend⟩ => ⟨h.phase hbusy, h.tc ▸ htc, hend⟩

theorem Lawful.afterQuiet {bare : Prop} {s u t : State} (k : Lawful bare u t) (h : Quiet s u) : Lawful bare s t :=
  h.transLawful k

/-- Quiet behind a lawful operation. -/
theorem Lawful.transQuiet {bare : Prop} {s u t : State} (h : Lawful bare s u) (k : Quiet u t) : Lawful bare s t where
  toLasts := h.toLasts.trans k.toLasts
  busy hbare hone hs := (h.busy hbare hone hs).imp k.busyInTransaction
    fun ⟨hbusy, htc, hend⟩ => ⟨hbusy, htc, k.tc.trans hend⟩

theorem Lawful.mono {bare bare' : Prop} {s t : State} (h : Lawful bare s t) (k : bare → bare') : Lawful bare' s t :=
  ⟨h.toLasts, fun hbare => h.busy (hbare ∘ k)⟩

/-! ### Outcomes -/

/-- A next state of the outcome stands in the relation to the state before; a stop promises nothing. -/
def Ensures (R : State → State → Prop) (s : State) (o : Res) : Prop := ∀ t, o = .next t → R s t

section ensures
variable {R R₁ R₂ : State → State → Prop} {s : State} {o o' : Res}

theorem Ensures.next {t : State} (h : R s t) : Ensures R s (.next t) := fun _ ht => by cases ht; exact h

theorem Ensures.refused {r : Refusal} : Ensures R s (.refused r) := fun _ ht => by cases ht

theorem Ensures.fault {r : Fault} : Ensures R s (.fault r) := fun _ ht => by cases ht

theorem Ensures.imp (h : Ensures R₁ s o) (k : ∀ t, R₁ s t → R s t) : Ensures R s o := fun t ht => k t (h t ht)

/-- An outcome of a later state, seen from the state before. -/
theorem Ensures.from {u : State} (h : Ensures R₁ u o) (k : ∀ t, R₁ u t → R s t) : Ensures R s o :=
  fun t ht => k t (h t ht)

theorem Ensures.andThen {f : State → Res} (h : Ensures R₁ s o) (k : ∀ u, R₁ s u → Ensures R s (f u)) :
    Ensures R s (andThen o f) := by
  intro t ht
  obtain ⟨u, hu, hf⟩ := andThen_eq_next.1 ht
  exact k u (h u hu) t hf

theorem Ensures.ite {c : Prop} [Decidable c] (h : c → Ensures R s o) (k : ¬ c → Ensures R s o') :
    Ensures R s (if c then o else o') := by
  by_cases hc : c
  · rw [if_pos hc]; exact h hc
  · rw [if_neg hc]; exact k hc

theorem Ensures.whenIdle (h : s.bus.phase = .idle → Ensures R s o) : Ensures R s (whenIdle s o) :=
  fun t ht => let ⟨hidle, ho⟩ := whenIdle_eq_next.1 ht; h hidle t ho

end ensures

/-- A quiet operation, then another. -/
theorem Ensures.quietThen {s : State} {o : Res} {f : State → Res} (h : Ensures Quiet s o)
    (k : ∀ u, Quiet s u → Ensures Quiet u (f u)) : Ensures Quiet s (Machine.andThen o f) :=
  h.andThen fun u hu => (k u hu).from fun _ => hu.trans

/-- What is quiet behind a quiet change is quiet. -/
theorem Ensures.afterQuiet {s u : State} {o : Res} (h : Ensures Quiet u o) (hu : Quiet s u) : Ensures Quiet s o :=
  h.from fun _ => hu.trans

theorem Ensures.lawful {bare : Prop} {s : State} {o : Res} (h : Ensures Quiet s o) : Ensures (Lawful bare) s o :=
  h.imp fun _ => Quiet.lawful

/-! ### The named updates -/

/-- A change outside the registers, the engine and the Host. -/
theorem Quiet.of_eq {s t : State} (hreg : t.reg = s.reg) (hbus : t.bus = s.bus) (hhost : t.host = s.host)
    (hcont : s.continues t) (hmem : s.memoryCanonical → t.memoryCanonical) : Quiet s t := by
  have hcfg := hcont.1
  refine ⟨⟨hcont, hmem, ?_, ?_, ?_, ?_, ?_, ?_, ?_, ?_⟩, by rw [hhost], by rw [hbus]; exact id⟩
  · simp only [State.reservedZero, hreg, hcfg]; exact id
  · simp only [State.buffersAgree, hreg, hbus]; exact id
  · simp only [State.errorAgrees, hreg]; exact id
  · simp only [State.busyLatched, hbus]; exact id
  · simp only [State.delaysFit, hhost, hcfg]; exact id
  · simp only [State.spinlockFree, hhost]; exact id
  · simp only [State.modeFixed, hhost, hcfg]; exact id
  · simp only [State.oneOutstanding, hhost]; exact id

/-- What of the Host the invariants are about, but for the delays. -/
def HostCtx.unmoved (h : HostCtx) : LockState × PathMode × HostMode × TcState × Bool × LockState :=
  (h.irqLock, h.path, h.mode, h.tc, h.mrq.isSome, h.lock)

/-- The flags of the registers that the invariants are about. -/
def RegBlock.unmoved (r : RegBlock) : Bool × Bool × Bool × BitVec 6 := (r.txBufEmpty, r.rxBufFull, r.error, r.errBits)

/-- What of the engine the invariants are about. -/
def BusEngine.unmoved (b : BusEngine) : List Word × List Word × BusPhase × Option Latched :=
  (b.txFifo, b.rxFifo, b.phase, b.latched)

section updates
variable {s : State}

theorem Quiet.setSched (es : List Event) : Quiet s (s.setSched es) := .of_eq rfl rfl rfl (.refl s) id
theorem Quiet.setActor (a : Agent) : Quiet s (s.setActor a) := .of_eq rfl rfl rfl (.refl s) id
theorem Quiet.setCancels (ts : List Nat) : Quiet s (s.setCancels ts) := .of_eq rfl rfl rfl (.refl s) id
theorem Quiet.setPlat (p : Platform) : Quiet s (s.setPlat p) := .of_eq rfl rfl rfl (.refl s) id

theorem Quiet.setNow {n : Nat} (h : s.now ≤ n) : Quiet s (s.setNow n) :=
  .of_eq rfl rfl rfl ⟨rfl, h, Nat.le_refl _, [], rfl⟩ id

theorem Quiet.setDraws {n : Nat} (h : s.draws ≤ n) : Quiet s (s.setDraws n) :=
  .of_eq rfl rfl rfl ⟨rfl, Nat.le_refl _, h, [], rfl⟩ id

theorem Quiet.emit (o : Output) : Quiet s (s.emit o) :=
  .of_eq rfl rfl rfl ⟨rfl, Nat.le_refl _, Nat.le_refl _, [o], rfl⟩ id

theorem Quiet.setBufMem {m : Memory} (h : s.bufMem.wf = true → m.wf = true) : Quiet s (s.setBufMem m) :=
  .of_eq rfl rfl rfl (.refl s) (And.imp_right h)

theorem Quiet.setDmaMem {m : Memory} (h : s.dmaMem.wf = true → m.wf = true) : Quiet s (s.setDmaMem m) :=
  .of_eq rfl rfl rfl (.refl s) (And.imp_left h)

theorem Quiet.setCtx (a : Agent) (c : Ctx) : Quiet s (setCtx s a c) :=
  .of_eq (setCtx_reg ..) (setCtx_bus ..) (setCtx_host ..)
    ⟨setCtx_cfg .., by simp, by simp, [], by simp⟩ (by simp [State.memoryCanonical])

theorem Quiet.returnWord (w : Word) : Quiet s (returnWord w s) := .setCtx ..
theorem Quiet.returnCode (r : Int) : Quiet s (returnCode r s) := .setCtx ..
theorem Quiet.pushFrames (fs : List Frame) : Quiet s (pushFrames fs s) := .setCtx ..
theorem Quiet.popFrame (fs : List Frame) : Quiet s (popFrame fs s) := .setCtx ..

/-- A change of the Host that leaves the transaction, the spinlock and what is fixed. -/
theorem Quiet.setHost {h : HostCtx} (hdelays : s.delaysFit → (s.setHost h).delaysFit)
    (hfixed : h.unmoved = s.host.unmoved) : Quiet s (s.setHost h) := by
  simp only [HostCtx.unmoved, Prod.mk.injEq] at hfixed
  obtain ⟨hirq, hpath, hmode, htc, hmrq, hlock⟩ := hfixed
  refine ⟨⟨.refl s, id, id, id, id, id, hdelays, ?_, ?_, ?_⟩, htc, id⟩
  · simp only [State.spinlockFree, State.setHost_host, hirq]; exact id
  · simp only [State.modeFixed, State.setHost_host, State.setHost_cfg, hpath, hmode]; exact id
  · simp only [State.oneOutstanding, State.setHost_host, htc, hmrq, hlock]; exact id

/-- A change of the registers and the engine by which the engine does not become busy. -/
theorem Quiet.setRegBus {r : RegBlock} {b : BusEngine} (hreserved : s.reservedZero → (s.setReg r).reservedZero)
    (hbuffers : s.buffersAgree → ((s.setReg r).setBus b).buffersAgree)
    (herrors : s.errorAgrees → (s.setReg r).errorAgrees) (hlatched : s.busyLatched → (s.setBus b).busyLatched)
    (hphase : b.phase = .busy → s.bus.phase = .busy) : Quiet s ((s.setReg r).setBus b) :=
  ⟨⟨.refl s, id, hreserved, hbuffers, herrors, hlatched, id, id, id, id⟩, rfl, hphase⟩

/-- A change of the registers that leaves the flags of the data buffers and the error bits. -/
theorem Quiet.setReg {r : RegBlock} (hreserved : s.reservedZero → (s.setReg r).reservedZero)
    (hflags : r.unmoved = s.reg.unmoved) : Quiet s (s.setReg r) := by
  simp only [RegBlock.unmoved, Prod.mk.injEq] at hflags
  obtain ⟨htx, hrx, herr, hbits⟩ := hflags
  exact .setRegBus (b := s.bus) hreserved (by simp [State.buffersAgree, htx, hrx])
    (by simp [State.errorAgrees, herr, hbits]) id id

/-- A change of the engine that leaves the data buffers, the phase and the latch. -/
theorem Quiet.setBus {b : BusEngine} (hbus : b.unmoved = s.bus.unmoved) : Quiet s (s.setBus b) := by
  simp only [BusEngine.unmoved, Prod.mk.injEq] at hbus
  obtain ⟨htx, hrx, hphase, hlatched⟩ := hbus
  refine .setRegBus (r := s.reg) id ?_ id ?_ (by rw [hphase]; exact id)
  · simp only [State.buffersAgree, State.setBus_bus, htx, hrx]; exact id
  · simp only [State.busyLatched, State.setBus_bus, hphase, hlatched]; exact id

end updates

/-! ### Register reads -/

theorem drawWord_quiet (s : State) : Quiet s (drawWord s).2 := .setDraws (Nat.le_succ _)

theorem refillWindow_quiet (s : State) : Quiet s (refillWindow s) := by
  rcases refillWindow_cases s with h | ⟨_, _, _, _, _, _, _, _, _, h⟩
  · rw [h]; exact .refl s
  · rw [h]; exact .setRegBus id id id id id

theorem popRx_quiet {s : State} (h : s.reg.rxBufFull = true) : Quiet s (popRx s).2 := by
  unfold popRx
  split
  · next w rest hfifo =>
    exact .setRegBus id (fun ⟨htx, hrx⟩ => ⟨htx, by simpa [h, hfifo] using hrx⟩) id id id
  · exact drawWord_quiet s

theorem readReg_quiet (r : Reg) (s : State) : Quiet s (readReg r s).2 := by
  cases r with
  | masked m => cases m <;> exact .refl s
  | plain q =>
    cases q with
    | rspbufHi => simp only [readReg]; split; exacts [.refl s, drawWord_quiet s]
    | rspbufLo =>
      simp only [readReg]; split
      · exact (refillWindow_quiet _).after (.setReg id rfl)
      · exact drawWord_quiet s
    | dataTx => exact drawWord_quiet s
    | dataRx => simp only [readReg]; split; exacts [popRx_quiet ‹_›, drawWord_quiet s]
    | _ => exact .refl s

theorem regRead_quiet (r : Reg) (s : State) : Ensures Quiet s (regRead r s) :=
  .ite (fun _ => .next ((readReg_quiet r s).trans (.returnWord _))) fun _ => .refused

/-! ### Register writes -/

/-- What is written under a mask lies inside it. -/
theorem and_and_not_self {n : Nat} (w m : BitVec n) : (w &&& m) &&& ~~~m = 0#n := by
  rw [BitVec.and_assoc, BitVec.and_not_self]; exact BitVec.and_zero

theorem writtenConfig_reserved {s : State} (mask value : Half) (h : s.reservedZero) :
    (s.setReg (writtenConfig mask value s.reg)).reservedZero :=
  let ⟨hconfig, htiming, hsize, hcount, hslots⟩ := h
  ⟨mergeHalf_reserved hconfig mask value, htiming, hsize, hcount, hslots⟩

theorem writtenTiming_reserved {s : State} (mask value : Half) (h : s.reservedZero) :
    (s.setReg (writtenTiming s.cfg mask value s.reg)).reservedZero :=
  let ⟨hconfig, htiming, hsize, hcount, hslots⟩ := h
  ⟨hconfig, mergeHalf_reserved htiming mask value, hsize, hcount, hslots⟩

/-- Replacing a slot by one whose address keeps to its width. -/
theorem setSlot_reserved {s : State} {k : Nat} {g : Slot}
    (hg : s.reservedZero → g.addr &&& ~~~(addrWritable s.cfg) = 0#32) (h : s.reservedZero) :
    (s.setReg (s.reg.setSlot k g)).reservedZero := by
  have hsame := hg h
  obtain ⟨hconfig, htiming, hsize, hcount, hslots⟩ := h
  refine ⟨hconfig, htiming, hsize, hcount, fun j => ?_⟩
  by_cases hj : j = k
  · subst j; simpa using hsame
  · simpa [slot_setSlot_other _ _ _ _ hj] using hslots j

theorem pushTx_quiet (w : Word) (s : State) : Ensures Quiet s (pushTx w s) :=
  .ite (fun htx => .next (.setRegBus id
    (fun ⟨hfifo, hrx⟩ => ⟨by simpa [htx] using hfifo, hrx⟩) id id id)) fun _ => .refused

theorem regWrite_quiet (r : PlainReg) (w : Word) (s : State) : Ensures Quiet s (regWrite r w s) := by
  cases r with
  | cmdbuf => exact .whenIdle fun _ => .next (.setReg id rfl)
  | cmdargLo => exact .whenIdle fun _ => .next (.setReg id rfl)
  | blksize =>
    exact .whenIdle fun _ => .next (.setReg (fun ⟨hconfig, htiming, _, hcount, hslots⟩ =>
      ⟨hconfig, htiming, and_and_not_self .., hcount, hslots⟩) rfl)
  | blkcnt =>
    exact .whenIdle fun _ => .next (.setReg (fun ⟨hconfig, htiming, hsize, _, hslots⟩ =>
      ⟨hconfig, htiming, hsize, and_and_not_self .., hslots⟩) rfl)
  | dataTx => exact pushTx_quiet w s
  | dmaBase k =>
    exact .ite (fun _ => .whenIdle fun _ => .next (.setReg (setSlot_reserved fun _ => and_and_not_self ..) rfl))
      fun _ => .refused
  | dmaSize k =>
    exact .ite (fun _ => .whenIdle fun _ => .next (.setReg (setSlot_reserved fun ⟨_, _, _, _, hslots⟩ => hslots k) rfl))
      fun _ => .refused
  | _ => exact .next (.refl s)

theorem softReset_quiet (s : State) : Quiet s (softReset s) := by
  refine .after (.setDraws (Nat.le_succ _)) (.setRegBus id ?_ ?_ ?_ ?_)
  · exact fun _ => ⟨rfl, rfl⟩
  · exact fun _ => by simp [State.errorAgrees, softResetReg]
  · exact fun _ h => by cases h
  · exact fun h => by cases h

/-- A trigger breaks no invariant but that the engine is busy in a transaction only, which is its callers' to keep. -/
theorem triggered_lasts (s : State) : Lasts s (triggered s) where
  continues := ⟨rfl, Nat.le_refl _, Nat.le_refl _, [_], rfl⟩
  canonical := id
  reserved := id
  buffers _ := ⟨rfl, rfl⟩
  errors := id
  latched _ _ := rfl
  delays := id
  spinlock := id
  modes := id
  outstanding := id

theorem trigger_lasts (s : State) : Ensures Lasts s (trigger s) := by
  intro t ht
  obtain ⟨-, -, -, rfl⟩ := trigger_eq_next.1 ht
  exact triggered_lasts s

theorem writeCtrl_lasts (mask value : Half) (s : State) : Ensures Lasts s (writeCtrl mask value s) := by
  have hreset : Quiet s (if (mask &&& value).getLsbD 1 then softReset s else s) := by
    split; exacts [softReset_quiet s, .refl s]
  exact .ite (fun _ => (trigger_lasts _).from fun _ => hreset.toLasts.trans) fun _ => .next hreset.toLasts

theorem writeCtrl_quiet {mask value : Half} (h : (mask &&& value).getLsbD 0 = false) (s : State) :
    Ensures Quiet s (writeCtrl mask value s) := by
  unfold writeCtrl
  rw [h]
  refine .next ?_
  split
  exacts [softReset_quiet s, .refl s]

/-- A masked write that does not trigger is quiet. -/
theorem regWriteMasked_quiet {m : MaskedReg} {w : Word} (h : maskedRole m w ≠ .trigger) (s : State) :
    Ensures Quiet s (regWriteMasked m w s) := by
  cases m with
  | config => exact .whenIdle fun _ => .next (.setReg (writtenConfig_reserved _ _) rfl)
  | ctrl =>
    refine writeCtrl_quiet ?_ s
    simpa [maskedRole, ctrlRole, triggersBy] using h
  | int => exact .next (.setReg id rfl)
  | timing => exact .whenIdle fun _ => .next (.setReg (writtenTiming_reserved _ _) rfl)
  | clkcfg => exact .whenIdle fun _ => .next (.setReg id rfl)

/-- A masked write of a register other than `CTRL` triggers nothing. -/
theorem maskedRole_ne_trigger {m : MaskedReg} (h : m ≠ .ctrl) (w : Word) : maskedRole m w ≠ .trigger := by
  cases m <;> simp_all [maskedRole]

theorem regWriteMasked_lasts (m : MaskedReg) (w : Word) (s : State) : Ensures Lasts s (regWriteMasked m w s) := by
  by_cases h : m = .ctrl
  · subst h; exact writeCtrl_lasts _ _ s
  · exact (regWriteMasked_quiet (maskedRole_ne_trigger h w) s).imp fun _ => Quiet.toLasts

theorem writeFieldMasked_quiet {m : MaskedReg} (h : m ≠ .ctrl) (f : Field) (v : Half) (s : State) :
    Ensures Quiet s (writeFieldMasked m f v s) :=
  regWriteMasked_quiet (maskedRole_ne_trigger h _) s

theorem writeField_quiet (r : PlainReg) (f : Field) (v : Word) (s : State) : Ensures Quiet s (writeField r f v s) :=
  .ite (fun _ => regWrite_quiet r _ s) fun _ =>
    .ite (fun _ => (regWrite_quiet r _ _).afterQuiet (readReg_quiet _ s)) fun _ => .refused

/-! ### Commands and the data path (families 41, 43) -/

theorem encodeCommand_quiet (opcode : Byte) (arg : Word) (rsp : RspShape) (hasData : Bool) (s : State) :
    Ensures Quiet s (encodeCommand opcode arg rsp hasData s) :=
  .ite (fun _ => .refused) fun _ =>
    (regWrite_quiet _ _ s).quietThen fun _ _ =>
    (writeField_quiet _ _ _ _).quietThen fun _ _ =>
    (writeFieldMasked_quiet (by decide) _ _ _).quietThen fun _ _ =>
    regWriteMasked_quiet (maskedRole_ne_trigger (by decide) _) _

theorem handOver_quiet (d : DataDesc) (mapped : List Mapped) (s : State) : Quiet s (handOver d mapped s) := by
  have hgiven : Quiet s ((s.setHost { s.host with dmaMapped := some mapped }).setBus { s.bus with arrived := 0 }) :=
    .after (.setBus rfl) (.setHost id rfl)
  unfold handOver
  cases d.dir with
  | rd => exact hgiven
  | wr => exact hgiven.trans (.setDmaMem fun h => wf_writeKeys h _ _)

theorem handBack_quiet (d : DataDesc) (mapped : List Mapped) (s : State) : Quiet s (handBack d mapped s) := by
  have hback : Quiet s (s.setHost { s.host with dmaMapped := none }) := .setHost id rfl
  unfold handBack
  cases d.dir with
  | rd => exact hback.trans (.trans (.setBufMem fun h => wf_writeKeys h _ _) (.setDraws (Nat.le_add_right _ _)))
  | wr => exact hback

theorem freeBytes_quiet (ks : List Nat) (s : State) : Quiet s (freeBytes ks s) :=
  .trans (.setBufMem fun h => wf_writeKeys h _ _) (.setDraws (Nat.le_add_right _ _))

theorem freeBuffers_quiet (d : DataDesc) (s : State) : Quiet s (freeBuffers d s) := by
  unfold freeBuffers
  cases d.dir with
  | rd => exact freeBytes_quiet _ s
  | wr => exact .refl s

theorem setCurrentData_quiet (d : DataDesc) (s : State) : Quiet s (setCurrentData d s) :=
  .setHost id (by simp [HostCtx.unmoved])

theorem writeSlots_quiet (k : Nat) (ms : List Mapped) (s : State) : Ensures Quiet s (writeSlots k ms s) := by
  induction ms generalizing k s with
  | nil => exact .next (.refl s)
  | cons m ms ih =>
    exact (writeField_quiet _ _ _ s).quietThen fun u _ => (writeField_quiet _ _ _ u).quietThen fun v _ => ih _ v

theorem requestDmaInterrupt_quiet (d : DataDesc) (s : State) : Ensures Quiet s (requestDmaInterrupt d s) :=
  .ite (fun _ => (writeFieldMasked_quiet (by decide) _ _ s).quietThen fun _ _ => .next (.setHost id rfl))
    fun _ => .next (.refl s)

theorem configureDma_quiet (d : DataDesc) (s : State) : Ensures Quiet s (configureDma d s) :=
  .ite (fun _ => .next ((freeBuffers_quiet d s).trans (.trans (setCurrentData_quiet _ _) (.returnCode _)))) fun _ =>
    .ite (fun _ => .refused) fun _ =>
      .afterQuiet
        ((writeFieldMasked_quiet (by decide) _ _ _).quietThen fun u _ =>
          (writeSlots_quiet _ _ u).quietThen fun v _ =>
          (requestDmaInterrupt_quiet d v).quietThen fun _ _ => .next (.returnCode _))
        (handOver_quiet d _ s)

theorem configurePio_quiet (s : State) : Ensures Quiet s (configurePio s) :=
  (regWriteMasked_quiet (maskedRole_ne_trigger (by decide) _) s).quietThen fun _ _ => .next (.returnCode _)

theorem configureCommon_quiet (d : DataDesc) (s : State) : Ensures Quiet s (configureCommon d s) :=
  (writeField_quiet _ _ _ s).quietThen fun u _ => (writeField_quiet _ _ _ u).quietThen fun v _ =>
    regWriteMasked_quiet (maskedRole_ne_trigger (by decide) _) v

theorem execDataCfg_quiet (s : State) : Ensures Quiet s (execDataCfg s) := by
  unfold execDataCfg
  cases currentData s with
  | none => exact .refused
  | some d =>
    refine .ite (fun _ => (configureCommon_quiet d s).quietThen fun u _ => ?_) fun _ => .refused
    cases u.host.path with
    | dma => exact configureDma_quiet d u
    | pio => exact configurePio_quiet u

theorem execDataCfgDma_quiet (s : State) : Ensures Quiet s (execDataCfgDma s) := by
  unfold execDataCfgDma
  cases currentData s with
  | none => exact .refused
  | some d => exact configureDma_quiet d s

theorem execDataCfgPio_quiet (s : State) : Ensures Quiet s (execDataCfgPio s) := by
  unfold execDataCfgPio
  cases currentData s with
  | none => exact .refused
  | some d => exact configurePio_quiet s

/-! ### Waits and decoders (families 46, 42) -/

theorem pollThen_quiet {b : StatusBit} {deadline : Nat} {again : Frame} {done fail : State → Res} (s : State)
    (hdone : ∀ u, Ensures Quiet u (done u)) (hfail : ∀ u, Ensures Quiet u (fail u)) :
    Ensures Quiet s (pollThen b deadline again done fail s) := by
  rcases pollThen_cases b deadline again done fail s with ⟨-, h⟩ | ⟨-, -, h⟩ | ⟨-, -, -, h⟩ <;> rw [h]
  · exact (hdone _).afterQuiet (.returnCode _)
  · exact (hfail _).afterQuiet (.after (.returnCode _) (.setHost id rfl))
  · exact .next (.pushFrames _)

theorem waitBit_quiet (b : StatusBit) (deadline : Nat) (s : State) : Ensures Quiet s (waitBit b deadline s) :=
  pollThen_quiet s (fun u => .next (.refl u)) fun u => .next (.refl u)

theorem setCurrentCmd_quiet (c : CmdSel) (k : Command) (s : State) : Quiet s (setCurrentCmd c k s) :=
  .setHost id (by simp [HostCtx.unmoved])

theorem updateCmd_quiet (c : CmdSel) (f : Command → Command) (s : State) : Quiet s (updateCmd c f s) := by
  unfold updateCmd
  cases currentCmd s c with
  | none => exact .refl s
  | some k => exact setCurrentCmd_quiet c _ s

theorem readWindow_quiet (s : State) : Quiet s (readWindow s).2 := (readReg_quiet _ s).trans (readReg_quiet _ _)

theorem poll48_quiet (c : CmdSel) (deadline : Nat) (s : State) : Ensures Quiet s (poll48 c deadline s) :=
  pollThen_quiet s (fun u => .next ((readWindow_quiet u).trans (updateCmd_quiet c _ _))) fun u => .next (.refl u)

theorem finishPass_quiet (c : CmdSel) (pairs : List (Word × Word)) (s : State) :
    Ensures Quiet s (finishPass c pairs s) := by
  unfold finishPass
  split
  · exact .next ((readWindow_quiet s).trans (updateCmd_quiet c _ _))
  · exact .next ((readWindow_quiet s).trans (.pushFrames _))

theorem poll136_quiet (c : CmdSel) (pairs : List (Word × Word)) (deadline : Nat) (s : State) :
    Ensures Quiet s (poll136 c pairs deadline s) :=
  pollThen_quiet s (finishPass_quiet c pairs) fun u => .next (.refl u)

theorem execRspGet48_quiet (c : CmdSel) (s : State) : Ensures Quiet s (execRspGet48 c s) := by
  unfold execRspGet48
  cases currentCmd s c with
  | none => exact .refused
  | some k => exact poll48_quiet c _ s

theorem execRspGet136_quiet (c : CmdSel) (s : State) : Ensures Quiet s (execRspGet136 c s) := by
  unfold execRspGet136
  cases currentCmd s c with
  | none => exact .refused
  | some k => exact poll136_quiet c _ _ s

/-! ### The PIO pump (family 44) -/

theorem movePioWord_quiet (dir : Dir) (buf : Word) (off : Nat) (s : State) :
    Ensures Quiet s (movePioWord dir buf off s) := by
  cases dir with
  | wr => exact regWrite_quiet .dataTx _ s
  | rd => exact .next ((readReg_quiet _ s).trans (.setBufMem fun h => wf_writeBufWord h _ _ _))

theorem pollPioWord_quiet (dir : Dir) (buf : Word) (off deadline : Nat) (s : State) :
    Ensures Quiet s (pollPioWord dir buf off deadline s) :=
  pollThen_quiet s (movePioWord_quiet dir buf off) fun u => .next (.refl u)

theorem pumpFrom_quiet (dir : Dir) (off : Nat) (segs : List Segment) (s : State) :
    Ensures Quiet s (pumpFrom dir off segs s) := by
  induction segs generalizing off with
  | nil => exact .next (.refl s)
  | cons g gs ih => exact .ite (fun _ => (pollPioWord_quiet _ _ _ _ _).afterQuiet (.pushFrames _)) fun _ => ih 0

theorem abortAt_quiet (dir : Dir) (off : Nat) (segs : List Segment) (s : State) : Quiet s (abortAt dir off segs s) := by
  cases dir with
  | rd => exact freeBytes_quiet _ s
  | wr => exact .refl s

theorem pumpNext_quiet (dir : Dir) (off : Nat) (segs : List Segment) (s : State) :
    Ensures Quiet s (pumpNext dir off segs s) := by
  refine .ite (fun _ => pumpFrom_quiet _ _ _ s) fun _ => ?_
  cases s.cfg.pioAbortScope with
  | transfer => exact .next (abortAt_quiet ..)
  | segment => exact (pumpFrom_quiet _ _ _ _).afterQuiet (abortAt_quiet ..)

theorem execPioXfer_quiet (s : State) : Ensures Quiet s (execPioXfer s) := by
  unfold execPioXfer
  cases currentData s with
  | none => exact .refused
  | some d => exact pumpFrom_quiet _ _ _ s

/-! ### The classifier (family 47) -/

theorem resetAndSettle_quiet (after : List Frame) (s : State) : Ensures Quiet s (resetAndSettle after s) := by
  rw [resetAndSettle_eq]
  exact .next ((softReset_quiet s).trans (.pushFrames _))

/-- A bumped delay keeps to its width (10_state.md R45). -/
theorem bumpDelay_fits (c : Cfg) (d : BitVec 3) : bumpDelay c d &&& ~~~(delayMask c) = 0#3 := and_and_not_self ..

theorem bump_delaysFit (x : DelayName) {s : State} (h : s.delaysFit) : (bump x s).delaysFit := by
  obtain ⟨hrdCrc, hrdDat, hrdRsp, hwrCmd, hwrDat⟩ := h
  cases x with
  | rdCrc => exact ⟨bumpDelay_fits .., hrdDat, hrdRsp, hwrCmd, hwrDat⟩
  | rdDat => exact ⟨hrdCrc, bumpDelay_fits .., hrdRsp, hwrCmd, hwrDat⟩
  | rdRsp => exact ⟨hrdCrc, hrdDat, bumpDelay_fits .., hwrCmd, hwrDat⟩
  | wrCmd => exact ⟨hrdCrc, hrdDat, hrdRsp, bumpDelay_fits .., hwrDat⟩
  | wrDat => exact ⟨hrdCrc, hrdDat, hrdRsp, hwrCmd, bumpDelay_fits ..⟩

theorem bump_quiet (x : DelayName) (s : State) : Quiet s (bump x s) := .setHost (bump_delaysFit x) rfl

theorem bumpOpt_quiet (x : Option DelayName) (s : State) : Quiet s (bumpOpt x s) := by
  cases x with
  | none => exact .refl s
  | some x => exact bump_quiet x s

theorem setRetries_quiet (tuning : Bool) (s : State) : Quiet s (setRetries tuning s) := by
  unfold setRetries
  split
  · exact .refl s
  · exact .setHost id (by simp [HostCtx.unmoved])

theorem recordFailure_quiet (e : ErrorCode) (tuning : Bool) (s : State) : Quiet s (recordFailure e tuning s) := by
  have hraised : Quiet s (setRetries tuning (raiseError e s)) :=
    (setRetries_quiet tuning _).after (.setHost id (by simp [HostCtx.unmoved]))
  cases e with
  | none => exact .refl s
  | _ => exact hraised

theorem failTransaction_quiet (e : ErrorCode) (x : Option DelayName) (s : State) :
    Ensures Quiet s (failTransaction e x s) :=
  (resetAndSettle_quiet _ _).afterQuiet ((bumpOpt_quiet x s).trans (recordFailure_quiet e _ _))

theorem succeedTransaction_quiet (s : State) : Quiet s (succeedTransaction s) :=
  .after (.setHost id rfl) (.setHost id (by simp [HostCtx.unmoved]))

theorem execCheckError_quiet (s : State) : Ensures Quiet s (execCheckError s) := by
  unfold execCheckError
  cases s.host.mrq with
  | none => exact .refused
  | some r =>
    exact .ite (fun _ => failTransaction_quiet _ _ s) fun _ =>
      .ite (fun _ => failTransaction_quiet _ _ s) fun _ => .next (succeedTransaction_quiet s)

theorem stopCheck_quiet (s : State) : Ensures Quiet s (stopCheck s) := by
  unfold stopCheck
  cases currentCmd s .stop with
  | none => exact .next (.refl s)
  | some c =>
    exact .ite (fun _ => (resetAndSettle_quiet _ _).afterQuiet (setCurrentCmd_quiet ..)) fun _ => .next (.refl s)

/-! ### Interrupts (family 48) -/

theorem execIrqEntry_quiet (s : State) : Ensures Quiet s (execIrqEntry s) := by
  refine .next ?_
  split
  · unfold enterInterrupt
    cases s.i.stack with
    | nil => exact .trans (.returnWord _) (.pushFrames _)
    | cons f fs => exact .refl s
  · exact .refl s

theorem completionAction_quiet (s : State) : Quiet s (completionAction s) := by
  unfold completionAction
  cases s.host.mrq with
  | none => exact .refl s
  | some r =>
    dsimp only
    split_ifs
    · exact .setHost id rfl
    · exact .after (.pushFrames _) (.setHost id rfl)
    · exact .refl s

/-- An operation that takes the spinlock: it runs, or changes nothing but its stack. -/
theorem Ensures.whenIrqUnlocked {R : State → State → Prop} {i : Instr} {s : State} {o : Res} (h : Ensures R s o)
    (hspin : ∀ t, Quiet s t → R s t) : Ensures R s (whenIrqUnlocked i s o) := by
  intro t ht
  rcases whenIrqUnlocked_eq_next.1 ht with ⟨-, ho⟩ | ⟨-, rfl⟩
  · exact h t ho
  · exact hspin _ (.pushFrames _)

theorem execIrqCmdDone_quiet (s : State) : Ensures Quiet s (execIrqCmdDone s) :=
  .whenIrqUnlocked
    ((regWriteMasked_quiet (maskedRole_ne_trigger (by decide) _) s).quietThen fun u _ =>
      .next (completionAction_quiet u))
    fun _ => id

theorem execIrqCard_quiet (s : State) : Ensures Quiet s (execIrqCard s) :=
  (regWriteMasked_quiet (maskedRole_ne_trigger (by decide) _) s).quietThen fun _ _ => .next (.emit _)

theorem execDeferredFinish_quiet (s : State) : Ensures Quiet s (execDeferredFinish s) := by
  refine .next ?_
  split
  · exact .after (.pushFrames _) (.setHost id rfl)
  · exact .refl s

/-! ### The bus engine's own steps (family 49) -/

theorem captureResponse_quiet (l : Latched) (bs : List Byte) (crcOk : Bool) (s : State) :
    Quiet s (captureResponse l bs crcOk s) := (refillWindow_quiet _).after (.setBus rfl)

theorem captureResponse_draws (l : Latched) (bs : List Byte) (crcOk : Bool) (s : State) :
    (captureResponse l bs crcOk s).draws = s.draws := by
  unfold captureResponse
  rcases refillWindow_cases _ with h | ⟨_, _, _, _, _, _, _, _, _, h⟩ <;> rw [h] <;> rfl

theorem execBRsp_quiet (a : RspAnswer) (s : State) : Ensures Quiet s (execBRsp a s) := by
  unfold execBRsp
  cases inFlight s with
  | none => exact .next (.refl s)
  | some l =>
    refine .ite (fun _ => .next (.refl s)) fun _ => ?_
    cases a with
    | nothing => exact .next (.setBus rfl)
    | bytes bs ok =>
      exact .ite
        (fun _ => .ite (fun _ => .next ((captureResponse_quiet ..).trans
          (.setDraws (by rw [captureResponse_draws]; exact Nat.le_succ _)))) fun _ => .fault)
        fun _ => .ite (fun _ => .next (captureResponse_quiet ..)) fun _ => .fault

theorem countByte_quiet (s : State) : Quiet s (countByte s) := by
  unfold countByte
  cases slotAt s s.bus.dmaSlot with
  | none => exact .refl s
  | some g =>
    dsimp only [advancePosition]
    split <;> exact .setBus rfl

theorem dmaStore_quiet (bs : List Byte) (s : State) : Ensures Quiet s (dmaStore bs s) := by
  induction bs generalizing s with
  | nil => exact .next (.refl s)
  | cons b bs ih =>
    unfold dmaStore
    cases dmaAddress s with
    | none => exact .refused
    | some a =>
      have hstored : Quiet s (noteArrival (s.setDmaMem (s.dmaMem.write a b))) :=
        .after (.setBus rfl) (.setDmaMem fun h => Memory.wf_write h a b)
      exact (ih _).afterQuiet (hstored.trans (countByte_quiet _))

theorem dmaLoad_quiet (n : Nat) (s : State) : Ensures Quiet s (dmaLoad n s) := by
  induction n generalizing s with
  | zero => exact .next (.refl s)
  | succ n ih =>
    unfold dmaLoad
    cases dmaAddress s with
    | none => exact .refused
    | some a => exact (ih _).afterQuiet ((countByte_quiet _).after (.setBus rfl))

theorem dmaStep_quiet (l : Latched) (a : DmaAnswer) (s : State) : Ensures Quiet s (dmaStep l a s) := by
  unfold dmaStep
  split
  · exact .next (.setBus rfl)
  · exact .ite (fun _ => dmaStore_quiet _ s) fun _ => .fault
  · exact .ite (fun _ => dmaLoad_quiet _ s) fun _ => .fault
  · exact .fault

theorem execBDataDma_quiet (a : DmaAnswer) (s : State) : Ensures Quiet s (execBDataDma a s) := by
  unfold execBDataDma
  cases inFlight s with
  | none => exact .next (.refl s)
  | some l =>
    exact .ite (fun _ => .next (.refl s)) fun _ => .ite (fun _ => .refused) fun _ => dmaStep_quiet l a s

theorem presentWord_quiet {s : State} (y0 y1 y2 y3 : Byte) (h : s.reg.rxBufFull = false) :
    Quiet s (presentWord y0 y1 y2 y3 s) :=
  .setRegBus id (fun ⟨htx, hrx⟩ => ⟨htx, by simpa [h] using hrx⟩) id id id

theorem takeWord_quiet {s : State} {w : Word} {rest : List Word} (htx : s.reg.txBufEmpty = false)
    (hfifo : s.bus.txFifo = w :: rest) : Quiet s (takeWord w rest s) :=
  .setRegBus id (fun ⟨hone, hrx⟩ => ⟨by simpa [htx, hfifo] using hone, hrx⟩) id id id

theorem pioStep_quiet (l : Latched) (a : PioAnswer) (s : State) : Ensures Quiet s (pioStep l a s) := by
  unfold pioStep
  cases a with
  | fail => rcases cfgDataPhase l.config with _ | _ | _ <;> exact .next (.setBus rfl)
  | read y0 y1 y2 y3 =>
    rcases cfgDataPhase l.config with _ | _ | _
    · exact .fault
    · exact .ite (fun h => .next (presentWord_quiet _ _ _ _ h.2)) fun _ => .next (.refl s)
    · exact .fault
  | take =>
    rcases cfgDataPhase l.config with _ | _ | _
    · exact .fault
    · exact .fault
    · dsimp only
      cases htx : s.reg.txBufEmpty with
      | true => exact .next (.refl s)
      | false =>
        cases hfifo : s.bus.txFifo with
        | nil => exact .next (.refl s)
        | cons w rest => exact .next (takeWord_quiet htx hfifo)

theorem execBDataPio_quiet (a : PioAnswer) (s : State) : Ensures Quiet s (execBDataPio a s) := by
  unfold execBDataPio
  cases inFlight s with
  | none => exact .next (.refl s)
  | some l => exact .ite (fun _ => pioStep_quiet l a s) fun _ => .next (.refl s)

/-- The error set of an error end is not empty (49_host_and_bus_interfaces.md R428). -/
theorem ne_zero_of_endContract {config : Half} {rsp : RspPhase} {dataFailed : Bool} {e : BitVec 6}
    (h : endContract config rsp dataFailed e = true) : e ≠ 0#6 := by
  rintro rfl
  simp [endContract] at h

theorem endWith_quiet {s : State} {r : RegBlock} (htx : r.txBufEmpty = s.reg.txBufEmpty)
    (hrx : r.rxBufFull = s.reg.rxBufFull) (herr : s.errorAgrees → (s.setReg r).errorAgrees)
    (hreserved : s.reservedZero → (s.setReg r).reservedZero) : Quiet s (endWith r s) :=
  .after (.setDraws (Nat.le_succ _)) (.setRegBus hreserved (by simp [State.buffersAgree, htx, hrx]) herr
    (fun _ h => by cases h) fun h => by cases h)

theorem errorEndReg_agrees {e : BitVec 6} (he : e ≠ 0#6) (token : BitVec 3) (finished : Bool) (s : State) :
    (s.setReg (errorEndReg e token finished s)).errorAgrees := by
  simp [State.errorAgrees, errorEndReg, BitVec.or_eq_zero_iff, he]

theorem execBEnd_quiet (a : EndAnswer) (s : State) : Ensures Quiet s (execBEnd a s) := by
  unfold execBEnd
  cases inFlight s with
  | none => exact .next (.refl s)
  | some l =>
    cases a with
    | ok => exact .ite (fun _ => .next (endWith_quiet rfl rfl id id)) fun _ => .next (.refl s)
    | err e token finished =>
      refine .ite (fun _ => .fault) fun h => .ite (fun _ => .next ?_) fun _ => .next (.refl s)
      exact endWith_quiet rfl rfl (fun _ => errorEndReg_agrees (ne_zero_of_endContract (not_not.1 h)) ..) id

/-! ### The upstream entry points (family 49) -/

/-- An operation that takes the mutex: what it does with a free mutex is all there is to show. -/
theorem Ensures.whenUnlocked {bare : Prop} {i : Instr} {s : State} {o : Res}
    (h : s.host.lock = .free → Ensures (Lawful bare) s o) : Ensures (Lawful bare) s (whenUnlocked i s o) := by
  intro t ht
  rcases whenUnlocked_eq_next.1 ht with ⟨hfree, ho⟩ | ⟨-, rfl⟩
  · exact h hfree t ho
  · exact (Quiet.pushFrames _).lawful

theorem execSetClock_lawful (rate : Word) (s : State) : Ensures (Lawful False) s (execSetClock rate s) :=
  .whenUnlocked fun _ => Ensures.lawful
    ((writeFieldMasked_quiet (by decide) _ _ s).quietThen fun _ _ => .next (.setHost id rfl))

theorem programTiming_quiet (s : State) : Ensures Quiet s (programTiming s) :=
  (regWriteMasked_quiet (maskedRole_ne_trigger (by decide) _) s).quietThen fun _ _ => .next (.setHost id rfl)

theorem execSetTimingMode_lawful (mode : Byte) (ddr : Bool) (s : State) :
    Ensures (Lawful False) s (execSetTimingMode mode ddr s) :=
  .whenUnlocked fun _ => Ensures.lawful ((programTiming_quiet _).afterQuiet (.setHost id rfl))

theorem drawAnswer_quiet (f : Bool → Output) (s : State) : Quiet s (drawAnswer f s) :=
  .trans (.emit _) (.setDraws (Nat.le_succ _))

/-- A register block that holds what a reset leaves in the registers with reserved bits holds 0 in these. -/
theorem reservedZero_of_reset {s : State} (hconfig : s.reg.config = 0) (htiming : s.reg.timing = 0)
    (hsize : s.reg.blksize = 0) (hcount : s.reg.blkcnt = 0) (hslots : s.reg.slots = []) : s.reservedZero := by
  have hslot : ∀ k, s.reg.slot k = Slot.zero := fun k => by rw [RegBlock.slot, hslots]; cases k <;> rfl
  simp [State.reservedZero, hconfig, htiming, hsize, hcount, hslot, Slot.zero]

/-- A Host that starts anew, with its registers and its engine, breaks no invariant. -/
theorem fresh_lawful {s : State} {base srcClk : Word} {path : PathMode} {mode : HostMode} {isAttached : Bool}
    {p : Platform} (hmodes : s.modeFixed → path = s.cfg.path ∧ mode = s.cfg.mode) :
    Lawful False s ((((s.setReg RegBlock.reset).setBus BusEngine.reset).setHost
      { HostCtx.fresh base srcClk path mode with attached := isAttached }).setPlat p) where
  continues := .refl s
  canonical := id
  reserved _ := reservedZero_of_reset rfl rfl rfl rfl rfl
  buffers _ := ⟨rfl, rfl⟩
  errors _ := by simp [State.errorAgrees, RegBlock.reset]
  latched _ h := by cases h
  delays _ := ⟨BitVec.zero_and, BitVec.zero_and, BitVec.zero_and, BitVec.zero_and, BitVec.zero_and⟩
  spinlock _ := rfl
  modes := hmodes
  outstanding _ := by simp [State.oneOutstanding, HostCtx.fresh]
  busy _ _ _ := .inl fun h => by cases h

theorem execAttach_lawful (base srcClk : Word) (s : State) : Ensures (Lawful False) s (execAttach base srcClk s) :=
  .ite (fun _ => .refused) fun _ => .ite (fun _ => .refused) fun _ =>
    .ite
      (fun _ => (regWriteMasked_quiet (maskedRole_ne_trigger (by decide) _) _).from fun _ =>
        (fresh_lawful (isAttached := true) fun _ => ⟨rfl, rfl⟩).transQuiet)
      fun _ => .next (Quiet.lawful (.setHost id rfl))

theorem execDetach_lawful (s : State) : Ensures (Lawful False) s (execDetach s) :=
  .ite
    (fun _ => (regWriteMasked_quiet (maskedRole_ne_trigger (by decide) _) s).andThen fun _ hu =>
      .next (hu.transLawful (fresh_lawful (isAttached := false) id)))
    fun _ => .refused

/-! ### The transaction (family 45) -/

/-- The Request of the transaction says that the machine is not idle (10_state.md R60). -/
theorem not_idle_of_mrq {s : State} {r : Request} (h : s.host.mrq = some r) (hone : s.oneOutstanding) :
    s.host.tc ≠ .idle := by
  obtain ⟨hmrq, -⟩ := hone
  exact hmrq.1 (by simp [h])

/-- The Request State Machine goes on inside a transaction. -/
theorem enterState_lasts {s : State} {tc : TcState} (hs : s.oneOutstanding → s.host.tc ≠ .idle) (htc : tc ≠ .idle) :
    Lasts s (s.setHost { s.host with tc := tc }) :=
  ⟨.refl s, id, id, id, id, id, id, id, id, fun hone =>
    let ⟨hmrq, hlock⟩ := hone
    ⟨iff_of_true (hmrq.2 (hs hone)) htc, iff_of_true (hlock.2 (hs hone)) htc⟩⟩

theorem enterFinishing_host_lawful {s : State} (hs : s.oneOutstanding → s.host.tc ≠ .idle) :
    Lawful False s (s.setHost { s.host with tc := .finishing }) :=
  ⟨enterState_lasts hs (by decide), fun _ _ _ => .inl fun _ => rfl⟩

theorem waitState_inTransaction (v : WaitSel) : inTransaction (waitState v) = true := by cases v <;> rfl

/-- What follows a trigger that is answered. -/
theorem Ensures.triggerThen {R : State → State → Prop} {s v : State} {f : State → Res}
    (h : Ensures R s (f (triggered v))) : Ensures R s (Machine.andThen (trigger v) f) := by
  intro t ht
  obtain ⟨u, hu, hf⟩ := andThen_eq_next.1 ht
  obtain ⟨-, -, -, rfl⟩ := trigger_eq_next.1 hu
  exact h t hf

/-- The trigger of a transaction enters a waiting state in the same step (R279). -/
theorem triggerInto_lawful {s : State} (htc : s.host.tc = .preparing) (v : WaitSel) :
    Ensures (Lawful False) s (triggerInto v s) := by
  unfold triggerInto
  rw [triggerWrite_eq]
  have hwaits : waitState v ≠ .idle := by cases v <;> decide
  exact .triggerThen (.next
    ⟨(triggered_lasts s).trans (enterState_lasts (fun _ => by simp [triggered, htc]) hwaits),
      fun _ _ _ => .inl fun _ => waitState_inTransaction v⟩)

theorem execTrigger_lawful (v : WaitSel) (s : State) : Ensures (Lawful False) s (execTrigger v s) :=
  .ite (fun htc => triggerInto_lawful htc v) fun _ => .refused

theorem runPath_lawful (row : PathRow) (k : BitVec 7) (v : WaitSel) (rest : List Frame) (s : State) :
    Ensures (Lawful False) s (runPath row k v rest s) := by
  refine .ite (fun hready => ?_) fun _ => .refused
  have htc : s.host.tc = .preparing := by
    simp only [pathReady, Bool.and_eq_true, beq_iff_eq] at hready
    obtain ⟨⟨⟨htc, -⟩, -⟩, -⟩ := hready
    exact htc
  exact (triggerInto_lawful htc v).andThen fun _ hu => .next (hu.transQuiet (.pushFrames _))

theorem execSubmitDataPio_lawful (k : BitVec 7) (s : State) : Ensures (Lawful False) s (execSubmitDataPio k s) :=
  (writeFieldMasked_quiet (by decide) _ _ s).andThen fun u hu =>
    (runPath_lawful .dataPio k .poll _ u).from fun _ => hu.transLawful

/-- With a free mutex no Request is outstanding, and the engine is not busy. -/
theorem acceptRequest_lawful {s : State} (r : Request) (hfree : s.host.lock = .free) :
    Lawful False s (acceptRequest r s) := by
  refine Lawful.transQuiet (u := s.setHost (recordedHost r s.host)) ⟨?_, fun _ hone hs => .inl fun hbusy => ?_⟩
    (.pushFrames _)
  · exact ⟨.refl s, id, id, id, id, id, id, id, id, fun _ => by simp [State.oneOutstanding, recordedHost]⟩
  · have hidle : s.host.tc = .idle := by
      obtain ⟨-, hlock⟩ := hone
      by_contra htc
      have hheld : s.host.lock = .held := hlock.2 htc
      simp [hfree] at hheld
    have hin := hs hbusy
    simp [hidle, inTransaction] at hin

theorem execSubmit_lawful (r : Request) (s : State) : Ensures (Lawful False) s (execSubmit r s) :=
  .ite (fun _ => .whenUnlocked fun hfree => .next (acceptRequest_lawful r hfree)) fun _ => .refused

theorem enterFinishing_lawful (s : State) : Lawful False s (enterFinishing s) := by
  unfold enterFinishing
  cases hmrq : s.host.mrq with
  | none => exact (Quiet.refl s).lawful
  | some r => exact enterFinishing_host_lawful (not_idle_of_mrq hmrq)

theorem execFinishMapfail_lawful (s : State) : Ensures (Lawful False) s (execFinishMapfail s) := by
  unfold execFinishMapfail
  cases currentData s with
  | none => exact .refused
  | some d => exact .ite (fun _ => .next ((enterFinishing_lawful s).transQuiet (.pushFrames _))) fun _ => .refused

theorem unmapRequest_quiet (r : Request) (s : State) : Quiet s (unmapRequest r s) := by
  unfold unmapRequest
  cases s.host.dmaMapped with
  | none => exact .setHost id rfl
  | some mapped =>
    cases r.data with
    | none => exact .setHost id rfl
    | some d => exact handBack_quiet d mapped s

theorem execFinish_lawful (s : State) : Ensures (Lawful False) s (execFinish s) := by
  refine .whenIrqUnlocked ?_ fun _ => Quiet.lawful
  cases hmrq : s.host.mrq with
  | none => exact .next (Quiet.refl s).lawful
  | some r =>
    refine .ite (fun _ => .next (Quiet.refl s).lawful) fun _ => .next ?_
    exact (enterFinishing_host_lawful (not_idle_of_mrq hmrq)).transQuiet
      (.trans (unmapRequest_quiet r _) (.pushFrames _))

/-- The tail of a transaction ends it, and the engine may still be busy under it (entry 42). -/
theorem finishRequest_lawful (s : State) : Lawful False s (finishRequest s) := by
  unfold finishRequest
  cases hmrq : s.host.mrq with
  | none => exact (Quiet.refl s).lawful
  | some r =>
    refine Lawful.transQuiet (u := s.setHost (releasedHost s.host)) ⟨?_, fun _ hone _ => ?_⟩ (.pushFrames _)
    · exact ⟨.refl s, id, id, id, id, id, id, id, id, fun _ => by simp [State.oneOutstanding, releasedHost]⟩
    · by_cases hbusy : s.bus.phase = .busy
      · exact .inr ⟨hbusy, not_idle_of_mrq hmrq hone, rfl⟩
      · exact .inl fun h => absurd h hbusy

theorem tailFinish_lawful (s : State) : Lawful False s (tailFinish s) :=
  (finishRequest_lawful _).afterQuiet (.setHost id rfl)

/-- The operation triggers outside the operations that trigger (entry 42). -/
def BareTrigger (i : Instr) (tc : TcState) : Prop := rawTrigger i = true ∨ (i = .stopIssue ∧ tc = .preparing)

theorem inTransaction_iff (tc : TcState) : inTransaction tc = true ↔ tc ≠ .idle ∧ tc ≠ .preparing := by
  cases tc <;> simp [inTransaction]

/-- A stop command is issued with its Request outstanding: behind the primary trigger, or bare. -/
theorem execStopIssue_lawful (s : State) :
    Ensures (Lawful (BareTrigger .stopIssue s.host.tc)) s (execStopIssue s) := by
  unfold execStopIssue
  cases hstop : currentCmd s .stop with
  | none => exact .refused
  | some c =>
    obtain ⟨r, hmrq, -⟩ := Option.bind_eq_some_iff.1 hstop
    have hencoded : Ensures Quiet s
        (encodeCommand c.opcode c.arg c.rsp false (s.setHost { s.host with waitFailed := false })) :=
      (encodeCommand_quiet _ _ _ _ _).afterQuiet (.setHost id rfl)
    refine hencoded.andThen fun u hu => Ensures.andThen
      ((writeFieldMasked_quiet (by decide) _ _ u).from fun _ => hu.trans) fun v hv => ?_
    rw [triggerWrite_eq]
    refine .triggerThen (.next (Lawful.transQuiet ⟨hv.toLasts.trans (triggered_lasts v), ?_⟩ (.pushFrames _)))
    intro hbare hone _
    refine .inl fun _ => (inTransaction_iff _).2 ?_
    change v.host.tc ≠ .idle ∧ v.host.tc ≠ .preparing
    rw [hv.tc]
    exact ⟨not_idle_of_mrq hmrq hone, fun htc => hbare (.inr ⟨rfl, htc⟩)⟩

/-! ### Every operation, every frame, every step -/

/-- The register-bus access that an operation of format `MMIO` is (30_encoding.md R141). -/
def runAccess : Access → State → Res
  | .rd r, s => regRead r s
  | .wr r w, s => regWriteAny r w s

/-- An operation of format `MMIO` is its register-bus access. -/
theorem exec_of_access {i : Instr} {x : Access} (h : i.access = some x) (s : State) : exec i s = runAccess x s := by
  cases i <;> cases h <;> rfl

/-- A masked write on the bus plays the part of that write. -/
theorem roleOf_of_maskedWrite {i : Instr} {m : MaskedReg} {w : Word} (h : i.access = some (.wr (.masked m) w)) :
    roleOf i = maskedRole m w := by
  cases i <;> cases h <;> rfl

theorem regWriteMasked_lawful (m : MaskedReg) (w : Word) (s : State) :
    Ensures (Lawful (maskedRole m w = .trigger)) s (regWriteMasked m w s) := by
  by_cases h : maskedRole m w = .trigger
  · exact (regWriteMasked_lasts m w s).imp fun _ ht => ⟨ht, fun hbare => absurd h hbare⟩
  · exact (regWriteMasked_quiet h s).lawful

theorem Ensures.unlessBare {bare : Prop} {s : State} {o : Res} (h : Ensures (Lawful False) s o) :
    Ensures (Lawful bare) s o :=
  h.imp fun _ ht => ht.mono False.elim

/-- Each operation by its family: those that move no transaction are quiet, and a bare trigger is nothing more than
lasting. -/
theorem exec_lawful (i : Instr) (s : State) : Ensures (Lawful (BareTrigger i s.host.tc)) s (exec i s) := by
  cases hx : i.access with
  | some x =>
    rw [exec_of_access hx]
    match x with
    | .rd r => exact (regRead_quiet r s).lawful
    | .wr (.plain q) w => exact (regWrite_quiet q w s).lawful
    | .wr (.masked m) w =>
      refine (regWriteMasked_lawful m w s).imp fun _ ht => ht.mono fun hm => .inl ?_
      simp [rawTrigger, roleOf_of_maskedWrite hx, hm]
  | none =>
    cases i with
    | submitR136 k | submitDataDmaIrqCmd k | submitDataDmaIrqThr k | submitDataDmaPoll k | submitNodataIrq k
    | submitNodataPoll k => exact (runPath_lawful _ k _ _ s).unlessBare
    | submitDataPio k => exact (execSubmitDataPio_lawful k s).unlessBare
    | fieldGet w lo n => exact .ite (fun _ => .next (Quiet.returnWord _).lawful) fun _ => .refused
    | fieldSet w lo n v => exact .ite (fun _ => .next (Quiet.returnWord _).lawful) fun _ => .refused
    | regRd r => exact (regRead_quiet r s).lawful
    | regWr q w => exact (regWrite_quiet q w s).lawful
    | regWrMasked m w =>
      exact (regWriteMasked_lawful m w s).imp fun _ ht => ht.mono fun hm => .inl (by simp [rawTrigger, roleOf, hm])
    | cmdEncode opcode arg rsp hasData => exact (encodeCommand_quiet opcode arg rsp hasData s).lawful
    | rspNone c => exact .next (Quiet.refl s).lawful
    | rspGet48 c => exact (execRspGet48_quiet c s).lawful
    | rspGet136 c => exact (execRspGet136_quiet c s).lawful
    | dataCfg => exact (execDataCfg_quiet s).lawful
    | dataCfgDma => exact (execDataCfgDma_quiet s).lawful
    | dataCfgPio => exact (execDataCfgPio_quiet s).lawful
    | pioXfer => exact (execPioXfer_quiet s).lawful
    | pioWrWord buf off => exact (pollPioWord_quiet .wr buf off _ s).lawful
    | pioRdWord buf off => exact (pollPioWord_quiet .rd buf off _ s).lawful
    | submit r => exact (execSubmit_lawful r s).unlessBare
    | finishMapfail => exact (execFinishMapfail_lawful s).unlessBare
    | trigger v => exact (execTrigger_lawful v s).unlessBare
    | finish => exact (execFinish_lawful s).unlessBare
    | stopIssue => exact execStopIssue_lawful s
    | notify r => exact .next (Quiet.emit _).lawful
    | waitUntil b => exact (waitBit_quiet b _ s).lawful
    | waitFinish | waitRspFull | waitTxEmpty | waitRxFull => exact (waitBit_quiet _ _ s).lawful
    | checkError => exact (execCheckError_quiet s).lawful
    | delayBump x => exact .next (bump_quiet x s).lawful
    | swReset => exact (resetAndSettle_quiet [] s).lawful
    | timingWriteback => exact (regWriteMasked_quiet (m := .timing) (maskedRole_ne_trigger (by decide) _) s).lawful
    | irqEntry => exact (execIrqEntry_quiet s).lawful
    | irqCmdDone => exact (execIrqCmdDone_quiet s).lawful
    | irqCard => exact (execIrqCard_quiet s).lawful
    | deferredFinish => exact (execDeferredFinish_quiet s).lawful
    | setClock rate => exact (execSetClock_lawful rate s).unlessBare
    | setTimingMode mode ddr => exact (execSetTimingMode_lawful mode ddr s).unlessBare
    | timingProgram => exact (programTiming_quiet s).lawful
    | setBusWidth width => exact .whenUnlocked fun _ => .next (Quiet.lawful (.setHost id rfl))
    | setPower power => exact .whenUnlocked fun _ => .next (Quiet.lawful (.setHost id rfl))
    | cardDetect => exact .next (drawAnswer_quiet _ s).lawful
    | voltageSwitch volt => exact .next (Quiet.lawful ((drawAnswer_quiet _ _).after (.setHost id rfl)))
    | attach base srcClk => exact (execAttach_lawful base srcClk s).unlessBare
    | detach => exact (execDetach_lawful s).unlessBare
    | bTrigger => exact (trigger_lasts s).imp fun _ ht => ⟨ht, fun hbare => absurd (.inl rfl) hbare⟩
    | bRsp a => exact (execBRsp_quiet a s).lawful
    | bDataDma a => exact (execBDataDma_quiet a s).lawful
    | bDataPio a => exact (execBDataPio_quiet a s).lawful
    | bEnd a => exact (execBEnd_quiet a s).lawful
    | bCardIrq => exact .next (Quiet.lawful (.setReg id rfl))
    | bSwReset => exact .next (softReset_quiet s).lawful
    | _ => simp [Instr.access] at hx

theorem runCall_lawful (i : Instr) (s : State) : Ensures (Lawful (BareTrigger i s.host.tc)) s (runCall exec i s) := by
  rcases runCall_cases exec i s with h | ⟨-, -, h⟩ | ⟨-, h⟩ <;> rw [h]
  · exact .refused
  · exact .next (Quiet.refl s).lawful
  · exact exec_lawful i s

/-- A frame runs an operation, as a call or at the end of a blocked acquire. -/
def Frame.operation : Frame → Option Instr
  | .call i => some i
  | .blocked i => some i
  | _ => none

theorem runFrame_lawful (f : Frame) (s : State) :
    Ensures (Lawful (∃ i, f.operation = some i ∧ BareTrigger i s.host.tc)) s (runFrame exec f s) := by
  cases f with
  | call i => exact (runCall_lawful i s).imp fun _ ht => ht.mono fun hbare => ⟨i, rfl, hbare⟩
  | blocked i =>
    exact .whenUnlocked fun _ => (runCall_lawful i s).imp fun _ ht => ht.mono fun hbare => ⟨i, rfl, hbare⟩
  | poll b deadline => exact (waitBit_quiet b deadline s).lawful
  | rsp48 c deadline => exact (poll48_quiet c deadline s).lawful
  | rsp136 c pairs deadline => exact (poll136_quiet c pairs deadline s).lawful
  | pioWord dir buf off deadline => exact (pollPioWord_quiet dir buf off deadline s).lawful
  | pioNext dir off segs => exact (pumpNext_quiet dir off segs s).lawful
  | settle u => exact .ite (fun _ => .next (Quiet.refl s).lawful) fun _ => .next (Quiet.pushFrames _).lawful
  | needTuning e => exact .next (Quiet.lawful (.setHost id rfl))
  | afterEncode =>
    simp only [runFrame, afterEncode]
    cases s.host.mrq with
    | none => exact .next (Quiet.refl s).lawful
    | some r => exact .ite (fun _ => .next (Quiet.pushFrames _).lawful) fun _ => .next (Quiet.pushFrames _).lawful
  | afterCfg =>
    simp only [runFrame, afterCfg]
    cases s.host.mrq with
    | none => exact .next (Quiet.refl s).lawful
    | some r => exact .ite (fun _ => .next (Quiet.pushFrames _).lawful) fun _ => .next (Quiet.pushFrames _).lawful
  | submitReturn =>
    simp only [runFrame, submitReturn]
    cases s.actor with
    | p tid => exact .next (Quiet.emit _).lawful
    | _ => exact .next (Quiet.refl s).lawful
  | enterFinishing => exact Ensures.unlessBare (.next (enterFinishing_lawful s))
  | tailR136 => exact Ensures.unlessBare (.next (finishRequest_lawful s))
  | tailFinish => exact Ensures.unlessBare (.next (tailFinish_lawful s))
  | stopCheck => exact (stopCheck_quiet s).lawful

theorem submitCancelled_lawful (tid : Nat) (i : Instr) (s : State) :
    Ensures (Lawful (BareTrigger i s.host.tc)) s (submitCancelled exec tid i s) := by
  have hspent : Quiet s ((s.setCancels (s.cancels.erase tid)).setDraws (s.draws + 1)) :=
    .trans (.setCancels _) (.setDraws (Nat.le_succ _))
  rcases submitCancelled_cases exec tid i s with h | ⟨-, h⟩ <;> rw [h]
  · exact .next (hspent.trans (.emit _)).lawful
  · exact (runCall_lawful i _).from fun _ => hspent.transLawful

theorem startInstr_lawful (a : Agent) (i : Instr) (s : State) :
    Ensures (Lawful (BareTrigger i s.host.tc)) s (startInstr exec a i s) := by
  have hactor : Quiet s (s.setActor a) := .setActor a
  rcases startInstr_cases exec a i s with ⟨r, h⟩ | ⟨-, h⟩ | ⟨-, -, -, -, -, ⟨tid, -, h⟩ | ⟨-, h⟩⟩ <;> rw [h]
  · exact .refused
  · exact .next (Quiet.refl s).lawful
  · exact (submitCancelled_lawful tid i _).from fun _ => hactor.transLawful
  · exact (runCall_lawful i _).from fun _ => hactor.transLawful

theorem nextOperation_run {s : State} {a : Agent} {f : Format} {bytes rest : List Byte} {i : Instr} {es : List Event}
    (hs : s.sched = .run a f bytes :: es) (hf : fetchInstr s.cfg f bytes = .ok (i, rest)) :
    s.nextOperation = some i := by
  simp [State.nextOperation, hs, hf]

theorem nextOperation_resume {s : State} {a : Agent} {f : Frame} {fs : List Frame} {es : List Event}
    (hs : s.sched = .resume a :: es) (hf : (getCtx s a).stack = f :: fs) : s.nextOperation = f.operation := by
  simp only [State.nextOperation, hs, hf]
  cases f <;> rfl

theorem signalThread_quiet (tid : Nat) (s : State) : Quiet s (signalThread tid s) := by
  unfold signalThread
  split
  · split
    · exact .refl s
    · exact .setCancels _
  · split
    · exact .trans (.setCtx ..) (.emit _)
    · exact .refl s
  · exact .refl s

theorem resumeAgent_lawful {s : State} {a : Agent} {es : List Event} (hs : s.sched = .resume a :: es) :
    Ensures (Lawful s.bareTrigger) s (resumeAgent exec a (s.setSched es)) := by
  have hsched : Quiet s (s.setSched es) := .setSched es
  have hctx : getCtx (s.setSched es) a = getCtx s a := getCtx_setSched ..
  cases hstack : (getCtx s a).stack with
  | nil => rw [resumeAgent_nil (by rwa [hctx])]; exact .next hsched.lawful
  | cons f fs =>
    cases hatt : s.host.attached with
    | false => simp only [resumeAgent, hctx, hstack, State.setSched_host, hatt]; exact .refused
    | true =>
      rw [resumeAgent_cons (s := s.setSched es) (by rw [hctx, hstack]) hatt]
      have hturn : Quiet s (popFrame fs ((s.setSched es).setActor a)) :=
        hsched.trans (.trans (.setActor a) (.popFrame fs))
      refine (runFrame_lawful f _).from fun t ht => (hturn.transLawful ht).mono ?_
      rintro ⟨i, hi, hbare⟩
      exact ⟨i, (nextOperation_resume hs hstack).trans hi, hturn.tc ▸ hbare⟩

/-- What every step keeps. -/
theorem step_lawful (s : State) : Ensures (Lawful s.bareTrigger) s (step s) := by
  cases hs : s.sched with
  | nil => rw [step_nil hs]; exact .next (Quiet.refl s).lawful
  | cons e es =>
    rw [step_cons hs]
    have hsched : Quiet s (s.setSched es) := .setSched es
    cases e with
    | run a f bytes =>
      cases hf : fetchInstr s.cfg f bytes with
      | error e => simp only [takeEvent, startBytes, State.setSched_cfg, hf]; exact .refused
      | ok x =>
        simp only [takeEvent, startBytes, State.setSched_cfg, hf]
        exact (startInstr_lawful a x.1 _).from fun _ ht =>
          (hsched.transLawful ht).mono fun hbare => ⟨x.1, nextOperation_run hs hf, hbare⟩
    | resume a => exact resumeAgent_lawful hs
    | tick d => exact .next (hsched.trans (.setNow (Nat.le_add_right _ _))).lawful
    | signal tid => exact .next (hsched.trans (signalThread_quiet tid _)).lawful
    | uWrite buf off v =>
      exact .ite (fun _ => .refused) fun _ =>
        .next (hsched.trans (.setBufMem fun h => Memory.wf_write h _ _)).lawful
    | provide ok => exact .next (hsched.trans (.setPlat _)).lawful

/-! ### The statements about the step -/

/-- Settles O10: the step is lawful, and a bare trigger is excluded. -/
theorem stepKeepsOneOutstanding : Obligations.StepKeepsOneOutstanding := by
  intro s t hone hstep
  have hlaw := step_lawful s t hstep
  exact ⟨hlaw.outstanding hone, fun hbusy hbare => hlaw.busy hbare hone hbusy⟩

/-- Settles O11: the step is lawful, and what is lawful keeps the reserved bits 0. -/
theorem stepKeepsReservedBitsZero : Obligations.StepKeepsReservedBitsZero :=
  fun s t hres hstep => (step_lawful s t hstep).reserved hres

/-- Settles O12: the three invariants are kept each for itself. -/
theorem stepKeepsFlagsAgreeing : Obligations.StepKeepsFlagsAgreeing := by
  rintro s t ⟨hbuffers, herrors, hlatched⟩ hstep
  have hlaw := step_lawful s t hstep
  exact ⟨hlaw.buffers hbuffers, hlaw.errors herrors, hlaw.latched hlatched⟩

/-- Settles O13: the three invariants are kept each for itself. -/
theorem stepKeepsTuningAndModes : Obligations.StepKeepsTuningAndModes := by
  rintro s t ⟨hdelays, hspinlock, hmodes⟩ hstep
  have hlaw := step_lawful s t hstep
  exact ⟨hlaw.delays hdelays, hlaw.spinlock hspinlock, hlaw.modes hmodes⟩

/-- Settles O14: the step is lawful, and what is lawful takes nothing back. -/
theorem stepNeverGoesBack : Obligations.StepNeverGoesBack :=
  fun s t hstep => (step_lawful s t hstep).continues

/-! ### Reset (10_state.md R61) -/

/-- Settles O7: each value is the one that the reset state is written with. -/
theorem resetHoldsTheGivenValues : Obligations.ResetHoldsTheGivenValues :=
  ⟨rfl, rfl, rfl, rfl, rfl, rfl, rfl, rfl, rfl, rfl, rfl, rfl, rfl, rfl, rfl, rfl, rfl, rfl, rfl, rfl, rfl, rfl, rfl,
    rfl, rfl, rfl, rfl, rfl, rfl, rfl, rfl⟩

/-- Settles O8, one invariant after the other. -/
theorem resetMeetsTheInvariants : Obligations.ResetMeetsTheInvariants := by
  refine ⟨⟨rfl, rfl⟩, reservedZero_of_reset rfl rfl rfl rfl rfl, ?_, ⟨rfl, rfl⟩, ?_, ?_, ?_, ?_, rfl, ⟨rfl, rfl⟩⟩
  · simp [State.oneOutstanding, State.reset, HostCtx.fresh]
  · simp [State.errorAgrees, State.reset, RegBlock.reset]
  · exact fun hbusy => by cases hbusy
  · exact fun hbusy => by cases hbusy
  · exact ⟨BitVec.zero_and, BitVec.zero_and, BitVec.zero_and, BitVec.zero_and, BitVec.zero_and⟩

/-! ### Reads (family 40) -/

/-- A read, from the bus or as `REG_RD`, is the one read of its register (40_register_access.md R162). -/
theorem exec_read {i : Instr} {r : Reg} (h : i.access = some (.rd r) ∨ i = .regRd r) (s : State) :
    exec i s = regRead r s := by
  rcases h with h | rfl
  · exact exec_of_access h s
  · rfl

/-- A read of a register that exists answers with its word. -/
theorem regRead_mapped {r : Reg} {s : State} (h : regMapped s r = true) :
    regRead r s = .next (returnWord (readReg r s).1 (readReg r s).2) := if_pos h

/-- A read of a slot's register at or above `MAX_SEG` is refused (10_state.md R39). -/
theorem regRead_unmapped {r : Reg} {s : State} (h : regMapped s r = false) :
    regRead r s = .refused .unmappedOffset := if_neg (by simp [h])

/-- Settles O15: register by register, `readReg` answers the register and the state it was asked in. -/
theorem readsReturnTheRegister : Obligations.ReadsReturnTheRegister := by
  intro s i r w hi hw
  rw [exec_read hi]
  cases r with
  | masked m =>
    cases m with
    | int => exact hw.elim
    | _ => subst hw; exact regRead_mapped rfl
  | plain q =>
    cases q with
    | cmdbuf | cmdargLo | blksize | blkcnt => subst hw; exact regRead_mapped rfl
    | dmaBase k | dmaSize k =>
      obtain ⟨hk, rfl⟩ := hw
      exact regRead_mapped (decide_eq_true hk)
    | _ => exact hw.elim

/-- The read of `RSPBUF_LO` that consumes the window (10_state.md R25). -/
theorem readReg_rspbufLo_full {s : State} (h : s.reg.rspBufFull = true) :
    readReg (.plain .rspbufLo) s = (s.reg.rspLo.setWidth 32, consumeWindow s) := if_pos h

/-- A window that cannot be filled again stays empty (42_response_decoder.md R206). -/
theorem refillWindow_short {s : State} (h : s.bus.rspStream.length < 6) : refillWindow s = s := by
  rcases refillWindow_cases s with hsame | ⟨_, _, _, _, _, _, rest, hstream, -, -⟩
  · exact hsame
  · rw [hstream] at h
    simp only [List.length_cons] at h
    omega

/-- The window after the read that consumes it, when six bytes remain (R206). -/
theorem consumeWindow_refilled {s : State} {w0 w1 w2 w3 w4 w5 : Byte} {rest : List Byte}
    (hfull : s.reg.rspBufFull = true) (hstream : s.bus.rspStream = w0 :: w1 :: w2 :: w3 :: w4 :: w5 :: rest) :
    consumeWindow s = (s.setReg { s.reg with rspHi := w0 ++ w1 ++ w2 ++ w3, rspLo := w4 ++ w5 }).setBus
      { s.bus with rspStream := rest } := by
  simp [consumeWindow, refillWindow, hstream, windowHi, windowLo, hfull]

/-- Settles O17: the window first, then the ports. -/
theorem windowAndPortReadsConsume : Obligations.WindowAndPortReadsConsume := by
  refine ⟨fun s => ⟨fun i hi => ?_, fun i hi => ?_⟩, fun s => ⟨fun i hi => ?_, fun i hi => ?_⟩⟩
  · rw [exec_read (hi.imp_left (by rintro rfl; rfl)), regRead_mapped rfl]
    exact ⟨fun hfull => by simp [readReg, hfull], fun hempty => by simp [readReg, hempty, drawWord]⟩
  · rw [exec_read (hi.imp_left (by rintro rfl; rfl)), regRead_mapped rfl]
    refine ⟨fun hempty => by simp [readReg, hempty, drawWord], fun hfull hshort => ?_, ?_⟩
    · rw [readReg_rspbufLo_full hfull, consumeWindow, refillWindow_short (by exact hshort)]
    · intro w0 w1 w2 w3 w4 w5 rest hfull hstream
      rw [readReg_rspbufLo_full hfull, consumeWindow_refilled hfull hstream]
  · rw [exec_read (hi.imp_left (by rintro rfl; rfl)), regRead_mapped rfl]
    exact ⟨fun w rest hfull hfifo => by simp [readReg, popRx, hfull, hfifo],
      fun hempty => by simp [readReg, hempty, drawWord]⟩
  · rw [exec_read (hi.imp_left (by rintro rfl; rfl)), regRead_mapped rfl]
    rfl

/-! ### Writes of plain registers (family 40) -/

/-- A write of a plain register, from the bus or as `REG_WR`, is the one write of it (R163). -/
theorem exec_write {i : Instr} {r : PlainReg} {w : Word} (h : i.access = some (.wr (.plain r) w) ∨ i = .regWr r w)
    (s : State) : exec i s = regWrite r w s := by
  rcases h with h | rfl
  · exact exec_of_access h s
  · rfl

/-- The bits of a mask. -/
theorem lowMask_getLsbD (n i : Nat) : (lowMask n).getLsbD i = (decide (i < 32) && decide (i < n)) := by
  rw [lowMask, BitVec.getLsbD_ofNat, Nat.testBit_two_pow_sub_one]
  by_cases h : i < 32 <;> simp [h]

/-- The low bits of a word. -/
theorem and_lowMask_getLsbD (w : Word) (n i : Nat) : (w &&& lowMask n).getLsbD i = (decide (i < n) && w.getLsbD i) := by
  rw [BitVec.getLsbD_and, lowMask_getLsbD]
  by_cases h : i < 32
  · simp [h, Bool.and_comm]
  · simp [h, BitVec.getLsbD_of_ge w i (by omega)]

/-- Settles O18: the idle engine lets each write through, and the writable bits of a count register are its low ones. -/
theorem plainWritesReplaceTheRegister : Obligations.PlainWritesReplaceTheRegister := by
  intro s w _ hidle
  refine ⟨fun i hi => ?_, fun i hi => ?_, fun i hi => ?_, fun i hi => ?_⟩
  · rw [exec_write (hi.imp_left (by rintro rfl; rfl))]
    exact whenIdle_idle hidle
  · rw [exec_write (hi.imp_left (by rintro rfl; rfl)), ← BitVec.setWidth_eq_extractLsb' (by decide)]
    exact whenIdle_idle hidle
  · rw [exec_write (hi.imp_left (by rintro rfl; rfl))]
    exact ⟨_, whenIdle_idle hidle, and_lowMask_getLsbD w _⟩
  · rw [exec_write (hi.imp_left (by rintro rfl; rfl))]
    exact ⟨_, whenIdle_idle hidle, and_lowMask_getLsbD w _⟩

/-- Settles O19: a slot that exists is replaced alone, and any other slot has no register. -/
theorem slotWritesReplaceOneSlot : Obligations.SlotWritesReplaceOneSlot := by
  intro s k w i j _ hidle hi hj only
  rw [exec_write hi, exec_write hj]
  have honly : ∀ g, only g (s.reg.setSlot k g) :=
    fun g => ⟨slot_setSlot_same .., fun n hn => slot_setSlot_other _ _ _ _ hn, rfl⟩
  refine ⟨fun hk => ?_, fun hk => ?_⟩
  · have hmapped : slotMapped s k = true := decide_eq_true hk
    simp only [regWrite, writeSlotAddr, writeSlotSectors, hmapped, if_true, whenIdle_idle hidle]
    refine ⟨⟨_, _, rfl, honly _, and_lowMask_getLsbD w _⟩, _, rfl, ?_⟩
    rw [← BitVec.setWidth_eq_extractLsb' (by decide)]
    exact honly _
  · have hunmapped : slotMapped s k = false := decide_eq_false (Nat.not_lt.2 hk)
    have hread : ∀ r, regMapped s r = slotMapped s k → exec (.regRd r) s = .refused .unmappedOffset :=
      fun r hr => regRead_unmapped (hr.trans hunmapped)
    refine ⟨if_neg ?_, if_neg ?_, hread _ rfl, hread _ rfl⟩ <;> simp [hunmapped]

/-- Settles O20: the writes that are ignored, then the port. -/
theorem readOnlyAndPortWrites : Obligations.ReadOnlyAndPortWrites := by
  refine ⟨fun s w i hi => ?_, fun s w i hi => ?_⟩
  · rcases hi with rfl | rfl | rfl | rfl | rfl | rfl | rfl | rfl | rfl | rfl <;> rfl
  · rw [exec_write (hi.imp_left (by rintro rfl; rfl))]
    exact ⟨fun hempty => if_pos hempty, fun hfull => if_neg (by simp [hfull])⟩

/-! ### Writes of `INT` and `CTRL` (R164, R167) -/

/-- A masked write, from the bus or as `REG_WR_MASKED`, is the one masked write of its register (R164). -/
theorem exec_writeMasked {i : Instr} {m : MaskedReg} {w : Word}
    (h : i.access = some (.wr (.masked m) w) ∨ i = .regWrMasked m w) (s : State) : exec i s = regWriteMasked m w s := by
  rcases h with h | rfl
  · exact exec_of_access h s
  · rfl

/-- A bit of the mask half. -/
theorem maskHalf_getLsbD (w : Word) {i : Nat} (hi : i < 16) : (maskHalf w).getLsbD i = w.getLsbD (16 + i) := by
  simp [maskHalf, hi]

/-- A bit of the value half. -/
theorem valueHalf_getLsbD (w : Word) {i : Nat} (hi : i < 16) : (valueHalf w).getLsbD i = w.getLsbD i := by
  simp [valueHalf, hi]

/-- A bit that is written 1 under its mask. -/
theorem writtenUnderMask_getLsbD (w : Word) {i : Nat} (hi : i < 16) :
    (maskHalf w &&& valueHalf w).getLsbD i = (w.getLsbD (16 + i) && w.getLsbD i) := by
  rw [BitVec.getLsbD_and, maskHalf_getLsbD w hi, valueHalf_getLsbD w hi]

/-- A pending bit after its clear bit has been written. -/
theorem cleared_eq (clear pending : Bool) : (if clear = true then false else pending) = (pending && !clear) := by
  cases clear <;> simp

/-- Settles O22: each flag of `INT` is written from the two bits of the word that stand for it. -/
theorem intWritesEnableAndClear : Obligations.IntWritesEnableAndClear := by
  intro s w i hi
  rw [exec_writeMasked (hi.imp_left (by rintro rfl; rfl))]
  simp only [regWriteMasked, writtenInt, cleared_eq, writtenUnderMask_getLsbD w (show 2 < 16 by decide),
    writtenUnderMask_getLsbD w (show 6 < 16 by decide), maskHalf_getLsbD w (show 0 < 16 by decide),
    maskHalf_getLsbD w (show 4 < 16 by decide), valueHalf_getLsbD w (show 0 < 16 by decide),
    valueHalf_getLsbD w (show 4 < 16 by decide)]

/-- Settles O23: the two selected bits decide what `writeCtrl` does. -/
theorem ctrlWritesAct : Obligations.CtrlWritesAct := by
  intro s w i hi
  have hwrite : exec i s = writeCtrl (maskHalf w) (valueHalf w) s :=
    exec_writeMasked (hi.imp_left (by rintro rfl; rfl)) s
  have htrigger := writtenUnderMask_getLsbD w (show 0 < 16 by decide)
  have hreset := writtenUnderMask_getLsbD w (show 1 < 16 by decide)
  simp only [Nat.add_zero, Nat.reduceAdd] at htrigger hreset
  rw [hwrite, writeCtrl, htrigger, hreset]
  refine ⟨fun h0 h1 => ?_, fun h0 h1 => ?_, fun h0 h1 => ?_, fun h0 h1 => ?_⟩ <;> rw [h0, h1] <;> rfl

/-! ### `SUBMIT` (family 45) -/

/-- The operations that block on the mutex are called like any other. -/
theorem mayCall_of_blocked {i : Instr} (h : (∃ r, i = .submit r) ∨ (∃ x, i = .setClock x) ∨
    (∃ m d, i = .setTimingMode m d) ∨ (∃ x, i = .setBusWidth x) ∨ (∃ x, i = .setPower x)) (s : State) :
    MayCall i s := by
  rcases h with ⟨_, rfl⟩ | ⟨_, rfl⟩ | ⟨_, _, rfl⟩ | ⟨_, rfl⟩ | ⟨_, rfl⟩ <;> exact ⟨fun _ => rfl, fun h => by cases h⟩

/-- Settles O39: the frames of `SUBMIT` by the outstanding Request, its return, and the blocked acquire. -/
theorem submitBranches : Obligations.SubmitBranches := by
  refine ⟨fun s r hmrq => ?_, fun s tid hactor => by simp [runFrame, submitReturn, hactor], fun s i hi => ?_⟩
  · intro k path
    have hpath : pathFrame r s = .call path := by
      change Frame.call (pathInstr k (branchOf s.host.path s.host.useInt s.host.dmaIntReq r)) = _
      cases hp : s.host.path with
      | pio => simp only [path, hp, branchOf, apply_ite (pathInstr k), if_true]; rfl
      | dma => simp only [path, hp, branchOf, apply_ite (pathInstr k), reduceCtorEq, if_false]; rfl
    refine ⟨fun hrsp hdata => ?_, fun h => ?_, fun hret => ?_, fun hret => ?_, fun d hdata herr htc => ?_, ?_⟩
    · simp [runFrame, afterEncode, hmrq, hrsp, hdata]
    · have hno : ¬ (r.cmd.rsp ≠ .r136 ∧ r.data.isSome = true) := by
        rintro ⟨hrsp, hdata⟩
        rcases h with h | h
        · exact hrsp h
        · simp [h] at hdata
      simp only [runFrame, afterEncode, hmrq, if_neg hno, hpath]
    · simp [runFrame, afterCfg, hmrq, hret, hpath]
    · simp [runFrame, afterCfg, hmrq, hret]
    · have hcur : currentData s = some d := by simp [currentData, hmrq, hdata]
      simp [exec, execFinishMapfail, hcur, herr, htc, enterFinishing, hmrq]
    · simp [runFrame, enterFinishing, hmrq]
  · refine ⟨fun hfree => ?_, fun hheld => by simp [runFrame, retryBlocked, whenUnlocked, hheld]⟩
    rw [runFrame, retryBlocked, whenUnlocked_free hfree, runCall_eq (mayCall_of_blocked hi s)]

end Sys2Proof.Machine
end

section
/-! PROOFS. The statements of 20_memory.md: the memories under a step, what a busy engine refuses, and the mapping that
fails. -/

namespace Sys2Proof.Machine

/-! ### Both memories (20_memory.md R80, R82) -/

/-- Settles O9: the step is lawful, and what is lawful keeps both memories canonical: an operation changes a memory only
byte by byte, through `Memory.write` (`Memory.wf_write`, `wf_writeKeys`). -/
theorem stepKeepsMemoryCanonical : Obligations.StepKeepsMemoryCanonical :=
  fun s t hcanonical hstep => (step_lawful s t hstep).canonical hcanonical

/-! ### A busy engine (70_reset_and_hazards.md R510, 20_memory.md R89) -/

section busy
variable {s : State}

/-- A slot that exists is not written under a transaction: not its address, -/
theorem writeSlotAddr_busy (hbusy : s.bus.phase = .busy) {k : Nat} (hk : k < s.cfg.maxSeg) (w : Word) :
    writeSlotAddr k w s = .refused .busBusy := (if_pos (decide_eq_true hk)).trans (whenIdle_busy hbusy)

/-- and not its size. -/
theorem writeSlotSectors_busy (hbusy : s.bus.phase = .busy) {k : Nat} (hk : k < s.cfg.maxSeg) (w : Word) :
    writeSlotSectors k w s = .refused .busBusy := (if_pos (decide_eq_true hk)).trans (whenIdle_busy hbusy)

/-- The plain registers that the engine has latched or walks are not written under a transaction. -/
theorem regWrite_busy (hbusy : s.bus.phase = .busy) {r : PlainReg} (w : Word)
    (hr : r = .cmdbuf ∨ r = .cmdargLo ∨ r = .blksize ∨ r = .blkcnt ∨
      ∃ k, k < s.cfg.maxSeg ∧ (r = .dmaBase k ∨ r = .dmaSize k)) :
    regWrite r w s = .refused .busBusy := by
  rcases hr with rfl | rfl | rfl | rfl | ⟨k, hk, rfl | rfl⟩
  · exact whenIdle_busy hbusy
  · exact whenIdle_busy hbusy
  · exact whenIdle_busy hbusy
  · exact whenIdle_busy hbusy
  · exact writeSlotAddr_busy hbusy hk w
  · exact writeSlotSectors_busy hbusy hk w

/-- Neither are the masked ones, whatever the mask selects (entry 45). -/
theorem regWriteMasked_busy (hbusy : s.bus.phase = .busy) {m : MaskedReg} (w : Word)
    (hm : m = .config ∨ m = .timing ∨ m = .clkcfg) : regWriteMasked m w s = .refused .busBusy := by
  rcases hm with rfl | rfl | rfl <;> exact whenIdle_busy hbusy

/-- A second trigger is refused (49_host_and_bus_interfaces.md R420). -/
theorem trigger_busy (hbusy : s.bus.phase = .busy) : trigger s = .refused .busBusy := whenIdle_busy hbusy

end busy

/-- Settles O24: every write, from the bus or typed, is the one write of its register, and that asks the engine first. -/
theorem busyEngineRefusesWrites : Obligations.BusyEngineRefusesWrites := by
  intro s w hbusy
  refine ⟨fun r hr => ⟨?_, fun i hi => ?_⟩, fun m hm => ⟨?_, fun i hi => ?_⟩, trigger_busy hbusy, ?_⟩
  · exact (exec_write (.inr rfl) s).trans (regWrite_busy hbusy w hr)
  · exact (exec_write (.inl hi) s).trans (regWrite_busy hbusy w hr)
  · exact (exec_writeMasked (.inr rfl) s).trans (regWriteMasked_busy hbusy w hm)
  · exact (exec_writeMasked (.inl hi) s).trans (regWriteMasked_busy hbusy w hm)
  · obtain ⟨-, -, htriggers, -⟩ := ctrlWritesAct s 0x00010001#32 _ (.inr rfl)
    exact (htriggers (by decide) (by decide)).trans (trigger_busy hbusy)

/-! ### A mapping that fails (43_data_path_configurator.md R227, 20_memory.md R90) -/

/-- The table holds neither a mapping of no segment nor one of more segments than it has slots. -/
theorem mappingFails_iff (c : Cfg) (ms : List Mapped) : mappingFails c ms = true ↔ ms = [] ∨ c.maxSeg < ms.length := by
  simp [mappingFails]

/-- `DATA_CFG_DMA` configures the Data Descriptor of the outstanding Request. -/
theorem exec_dataCfgDma {s : State} {d : DataDesc} (hd : currentData s = some d) :
    exec .dataCfgDma s = configureDma d s := by
  change execDataCfgDma s = _
  rw [execDataCfgDma, hd]

/-- A mapping that the table cannot hold is recorded in the descriptor, and only the buffers of a read are touched. -/
theorem configureDma_fails {s : State} {d : DataDesc} (h : mappingFails s.cfg (dmaMap s d.sg d.dir) = true) :
    configureDma d s = .next (returnCode (-1) (setCurrentData { d with error := .dmaMap } (freeBuffers d s))) := if_pos h

/-- Settles O33: a write frees no buffer, and a read frees just the bytes of its scatter list. -/
theorem oversizedMappingFails : Obligations.OversizedMappingFails := by
  intro s d hd hsize
  rw [exec_dataCfgDma hd, configureDma_fails ((mappingFails_iff ..).2 hsize)]
  refine ⟨fun hwr => by rw [freeBuffers_wr hwr], fun hrd => ?_⟩
  obtain ⟨m, hfree, hbytes⟩ := freeBytes_eq (bufKeys d.sg) s
  rw [freeBuffers_rd hrd, hfree]
  exact ⟨m, rfl, fun ⟨_, hwf⟩ => hbytes hwf⟩

end Sys2Proof.Machine
end

section
/-! PROOFS. The statements of 30_encoding.md: decoding what has been encoded, the row of a dispatch key, and the bits of
the register words. -/

namespace Sys2Proof.Machine

/-! ### Decode and encode (30_encoding.md R139 to R141) -/

/-- A dispatch key decodes to the path of its row (R139). -/
theorem decodeReq_key {k : BitVec 7} {row : PathRow} (h : reqRow k = some row) (rest : List Byte) :
    decodeReq (k.setWidth 8 :: rest) = .ok (pathInstr k row, rest) := by
  have hlt : k.toNat < 128 := k.isLt
  have hget : getNat 1 (k.setWidth 8 :: rest) = .ok (k.toNat, rest) := by
    simp [getNat, Nat.mod_eq_of_lt (show k.toNat < 256 by omega)]
  simp only [decodeReq, hget, except_ok_bind, if_pos hlt, BitVec.ofNat_toNat, BitVec.setWidth_eq, h]

/-- A reader that runs `g` first goes on with what `g` has read. -/
theorem bind_read {α β : Type} {g : Get α} {bs r : List Byte} {a : α}
    {k : α × List Byte → Except DecodeError β} {b : Except DecodeError β} (hg : g bs = .ok (a, r))
    (hk : k (a, r) = b) : (g bs >>= k) = b := by
  rw [hg]; exact hk

/-- A reader that starts with a key or an id goes on with the row of that number. -/
theorem bind_head {n k : Nat} {β : Type} {r : List Byte} {f : Nat × List Byte → Except DecodeError β}
    {b : Except DecodeError β} (hn : n < 256 ^ k) (hf : f (n, r) = b) : (getNat k (putNat k n ++ r) >>= f) = b :=
  bind_read (getNat_putNat hn r) hf

/-- Settles O5, constructor by constructor: the decoder reads the key or the id, and then one operand after the other as
the encoder has written it. A row without operands is its key or id alone. -/
theorem decodeOfEncode : Obligations.DecodeOfEncode := by
  intro i rest h
  cases i with
  | wrCmdbuf w | wrCmdargLo w | wrRspbufHi w | wrRspbufLo w | wrConfig w | wrCtrl w | wrInt w | wrState w | wrStatus w
  | wrTiming w | wrClkcfg w | wrBlksize w | wrBlkcnt w | wrDataTx w | wrDataRx w
  | wrDmaBase0 w | wrDmaSize0 w | wrDmaBase1 w | wrDmaSize1 w | wrDmaBase2 w | wrDmaSize2 w | wrDmaBase3 w
  | wrDmaSize3 w | wrDmaBase4 w | wrDmaSize4 w | wrDmaBase5 w | wrDmaSize5 w | wrDmaBase6 w | wrDmaSize6 w
  | wrDmaBase7 w | wrDmaSize7 w | setClock w =>
    exact bind_head (by decide) (bind_read (getWord_putWord w rest) rfl)
  | submitR136 k | submitDataPio k | submitDataDmaIrqCmd k | submitDataDmaIrqThr k | submitDataDmaPoll k
  | submitNodataIrq k | submitNodataPoll k => exact decodeReq_key (of_decide_eq_true h) rest
  | fieldGet w lo n =>
    exact bind_head (by decide) (bind_read (getWord_putWord ..) (bind_read (getByte_cons ..)
      (bind_read (getByte_cons ..) rfl)))
  | fieldSet w lo n v =>
    exact bind_head (by decide) (bind_read (getWord_putWord ..) (bind_read (getByte_cons ..)
      (bind_read (getByte_cons ..) (bind_read (getWord_putWord ..) rfl))))
  | regRd r => exact bind_head (by decide) (bind_read (getCode_putReg (of_decide_eq_true h) rest) rfl)
  | regWr r w =>
    exact bind_head (by decide) (bind_read (getCode_putPlain (of_decide_eq_true h) _)
      (bind_read (getWord_putWord ..) rfl))
  | regWrMasked m w =>
    have hbytes : encode (.regWrMasked m w) ++ rest = putNat 1 0x05 ++ (putMasked m ++ (putWord w ++ rest)) := by
      change putNat 1 0x05 ++ putMasked m ++ putWord w ++ rest = _
      simp only [List.append_assoc]
    rw [hbytes]
    exact bind_head (by decide) (bind_read (getCode_putMasked ..) (bind_read (getWord_putWord ..) rfl))
  | cmdEncode opcode arg rsp hasData =>
    exact bind_head (by decide) (bind_read (getByte_cons ..) (bind_read (getWord_putWord ..)
      (bind_read (getCode_putShape ..) (bind_read (getCode_putBool ..) rfl))))
  | rspNone c | rspGet48 c | rspGet136 c => exact bind_head (by decide) (bind_read (getCode_putCmdSel c rest) rfl)
  | pioWrWord buf off | pioRdWord buf off =>
    have hoff : off < 256 ^ 8 := of_decide_eq_true h
    exact bind_head (by decide) (bind_read (getWord_putWord ..) (bind_read (getNat_putNat hoff rest) rfl))
  | submit req | notify req => exact bind_head (by decide) (bind_read (getRequest_putRequest h rest) rfl)
  | trigger v => exact bind_head (by decide) (bind_read (getCode_putWaitSel v rest) rfl)
  | waitUntil b => exact bind_head (by decide) (bind_read (getCode_putStatusBit b rest) rfl)
  | delayBump x => exact bind_head (by decide) (bind_read (getCode_putDelay x rest) rfl)
  | setTimingMode mode ddr =>
    exact bind_head (by decide) (bind_read (getByte_cons ..) (bind_read (getCode_putBool ..) rfl))
  | setBusWidth x | setPower x | voltageSwitch x => exact bind_head (by decide) (bind_read (getByte_cons x rest) rfl)
  | attach base srcClk =>
    exact bind_head (by decide) (bind_read (getWord_putWord ..) (bind_read (getWord_putWord ..) rfl))
  | bRsp a => exact bind_head (by decide) (bind_read (getRspAnswer_putRspAnswer h rest) rfl)
  | bDataDma a => exact bind_head (by decide) (bind_read (getDmaAnswer_putDmaAnswer h rest) rfl)
  | bDataPio a => exact bind_head (by decide) (bind_read (getPioAnswer_putPioAnswer a rest) rfl)
  | bEnd a => exact bind_head (by decide) (bind_read (getEndAnswer_putEndAnswer a rest) rfl)
  | _ => rfl

/-- Settles O4: the decoder runs on each of the words. -/
theorem someWordsDecode : Obligations.SomeWordsDecode :=
  ⟨rfl, rfl, rfl, rfl, rfl, rfl, rfl, rfl, rfl, rfl, rfl⟩

/-! ### The dispatch key (30_encoding.md R139) -/

/-- The table of R139, on a key put together from its fields: the response shape, `has_data`, the direction, the DMA
path, the use-interrupt flag and the threshold. -/
theorem reqRow_fields (rsp : RspShape) (hasData wr dma useInt large : Bool) :
    reqRow (BitVec.ofNat 2 rsp.code ++ BitVec.ofBool hasData ++ BitVec.ofBool wr ++ BitVec.ofBool dma ++
        BitVec.ofBool useInt ++ BitVec.ofBool large) =
      if rsp = .r136 then (if hasData then none else some .r136)
      else if hasData then
        (if dma then (if useInt then some .dataDmaIrqCmd else if large then some .dataDmaIrqThr else some .dataDmaPoll)
         else some .dataPio)
      else some (if useInt then .nodataIrq else .nodataPoll) := by
  cases rsp <;> revert hasData wr dma useInt large <;> decide

/-- A well-formed Request that awaits a 136-bit response carries no data (45_transaction_controller.md R271). -/
theorem data_eq_none_of_r136 {c : Cfg} {path : PathMode} {r : Request} (h : requestWellFormed c path r = true)
    (hrsp : r.cmd.rsp = .r136) : r.data = none := by
  simp only [requestWellFormed, Bool.and_eq_true] at h
  obtain ⟨⟨⟨⟨-, hr136⟩, -⟩, -⟩, -⟩ := h
  simpa [hrsp] using hr136

/-- Settles O6: of the keys the table of R139 rejects, well-formedness leaves none, and on the others it branches as
`SUBMIT` does. -/
theorem dispatchKeySelectsThePath : Obligations.DispatchKeySelectsThePath := by
  intro c path useInt r hwf large
  rw [dispatchKey, reqRow_fields]
  by_cases hrsp : r.cmd.rsp = .r136
  · simp [hrsp, data_eq_none_of_r136 hwf hrsp]
  · cases hdata : r.data with
    | none => simp [hrsp]
    | some d => cases path <;> simp [hrsp, large, hdata, apply_ite some]

/-! ### The words of `INT`, `STATE` and `STATUS` (30_encoding.md R128 to R130) -/

/-- A one-bit field shows at its place alone. -/
theorem bitWord_getLsbD (b : Bool) {k : Nat} (hk : k < 32) (n : Nat) : (bitWord b k).getLsbD n = (n == k && b) := by
  cases b with
  | false => simp [bitWord]
  | true =>
    rw [bitWord, if_pos rfl, BitVec.getLsbD_shiftLeft, BitVec.getLsbD_one, Bool.eq_iff_iff]
    simp
    omega

/-- The bits of `INT` (R128). -/
theorem intView_getLsbD (r : RegBlock) (n : Nat) :
    (intView r).getLsbD n =
      ((n == 0 && r.cmpEn) || (n == 1 && r.cmpPend) || (n == 4 && r.cardEn) || (n == 5 && r.cardPend)) := by
  simp only [intView, BitVec.getLsbD_or, bitWord_getLsbD _ (show 0 < 32 by decide),
    bitWord_getLsbD _ (show 1 < 32 by decide), bitWord_getLsbD _ (show 4 < 32 by decide),
    bitWord_getLsbD _ (show 5 < 32 by decide)]

/-- A three-bit field at bit 4 of a word. -/
theorem token_getLsbD (t : BitVec 3) (n : Nat) :
    (t.setWidth 32 <<< 4).getLsbD n = (decide (4 ≤ n) && t.getLsbD (n - 4)) := by
  rw [BitVec.getLsbD_shiftLeft, BitVec.getLsbD_setWidth, ← decide_not]
  by_cases hn : n < 32
  · simp only [hn, show n - 4 < 32 by omega, Nat.not_lt, decide_true, Bool.true_and]
  · simp [BitVec.getLsbD_of_ge t (n - 4) (by omega)]

/-- The bits of `STATE` (R129). -/
theorem stateView_getLsbD (r : RegBlock) (n : Nat) :
    (stateView r).getLsbD n =
      ((n == 0 && r.finished) || (n == 1 && r.error) || (decide (4 ≤ n) && r.crcToken.getLsbD (n - 4))) := by
  simp only [stateView, BitVec.getLsbD_or, token_getLsbD, bitWord_getLsbD _ (show 0 < 32 by decide),
    bitWord_getLsbD _ (show 1 < 32 by decide)]

/-- The six error bits stand at the bottom of a word. -/
theorem errBits_getLsbD (e : BitVec 6) (n : Nat) : (e.setWidth 32).getLsbD n = (decide (n < 6) && e.getLsbD n) := by
  rw [BitVec.getLsbD_setWidth]
  by_cases hn : n < 6
  · simp [hn, show n < 32 by omega]
  · simp [BitVec.getLsbD_of_ge e n (by omega)]

/-- The bits of `STATUS` (R130). -/
theorem statusView_getLsbD (r : RegBlock) (n : Nat) :
    (statusView r).getLsbD n =
      ((decide (n < 6) && r.errBits.getLsbD n) || (n == 8 && r.rspBufFull) || (n == 9 && r.txBufEmpty) ||
        (n == 10 && r.rxBufFull)) := by
  simp only [statusView, BitVec.getLsbD_or, errBits_getLsbD, bitWord_getLsbD _ (show 8 < 32 by decide),
    bitWord_getLsbD _ (show 9 < 32 by decide), bitWord_getLsbD _ (show 10 < 32 by decide)]

/-- Settles O16: each of the three reads answers the view of its register. -/
theorem flagWordsShowTheFlags : Obligations.FlagWordsShowTheFlags := by
  intro s i r hi hr
  rw [exec_read hi]
  rcases hr with rfl | rfl | rfl
  · exact ⟨_, regRead_mapped rfl, intView_getLsbD s.reg⟩
  · exact ⟨_, regRead_mapped rfl, stateView_getLsbD s.reg⟩
  · exact ⟨_, regRead_mapped rfl, statusView_getLsbD s.reg⟩

/-! ### Masked writes of `CONFIG`, `TIMING` and `CLKCFG` (40_register_access.md R164) -/

/-- The writable bits of `CONFIG` are the low ten (R126). -/
theorem configWritable_getLsbD {n : Nat} (hn : n < 16) : configWritable.getLsbD n = decide (n < 10) := by
  revert n; decide

/-- The writable bits of `CLKCFG` are the low twelve (R132). -/
theorem clkcfgWritable_getLsbD {n : Nat} (hn : n < 12) : clkcfgWritable.getLsbD n = true := by
  revert n; decide

/-- A bit of five lanes that hold the same value (R131). -/
theorem timingValue_getLsbD (lane : BitVec 3) {n : Nat} (hn : n < 16) :
    (timingValue lane lane lane lane lane).getLsbD n = (decide (n < 15) && lane.getLsbD (n % 3)) := by
  revert lane n; decide

/-- The writable bits of `TIMING` are the low `DLY_W` bits of each lane (R131). -/
theorem timingWritable_getLsbD (c : Cfg) {n : Nat} (hn : n < 16) :
    (timingWritable c).getLsbD n = (decide (n < 15) && decide (n % 3 < c.dlyW)) := by
  have hlane : n % 3 < 3 := Nat.mod_lt n (by decide)
  rw [timingWritable, timingValue_getLsbD _ hn, BitVec.getLsbD_setWidth, lowMask_getLsbD]
  simp [hlane, show n % 3 < 32 by omega]

/-- A bit of the merge of a masked write, from the bits of its word. -/
theorem mergeHalf_word_getLsbD (old writable : Half) (w : Word) {n : Nat} (hn : n < 16) :
    (mergeHalf old (maskHalf w) (valueHalf w) writable).getLsbD n =
      if w.getLsbD (16 + n) && writable.getLsbD n then w.getLsbD n else old.getLsbD n := by
  rw [mergeHalf_getLsbD, BitVec.getLsbD_and, maskHalf_getLsbD w hn, valueHalf_getLsbD w hn]

/-- Settles O21: the idle engine lets each write through, and the merge takes the selected writable bits. -/
theorem maskedWritesNeedTheirMask : Obligations.MaskedWritesNeedTheirMask := by
  intro s w _ hidle
  refine ⟨fun i hi => ?_, fun i hi => ?_, fun i hi => ?_⟩
  · rw [exec_writeMasked (hi.imp_left (by rintro rfl; rfl))]
    refine ⟨_, whenIdle_idle hidle, fun n hn => ?_⟩
    rw [mergeHalf_word_getLsbD _ _ _ hn, configWritable_getLsbD hn]
  · rw [exec_writeMasked (hi.imp_left (by rintro rfl; rfl))]
    refine ⟨_, whenIdle_idle hidle, fun n hn => ?_⟩
    rw [mergeHalf_word_getLsbD _ _ _ hn, timingWritable_getLsbD _ hn, Bool.and_assoc]
  · rw [exec_writeMasked (hi.imp_left (by rintro rfl; rfl))]
    refine ⟨_, whenIdle_idle hidle, fun n hn => ?_⟩
    have hn' : n < 16 := by omega
    rw [BitVec.getLsbD_setWidth, mergeHalf_word_getLsbD _ _ _ hn', clkcfgWritable_getLsbD hn, BitVec.getLsbD_setWidth]
    simp [hn, hn']

end Sys2Proof.Machine
end

section
/-! PROOFS. The statements of 40_register_access.md: the field operations. -/

namespace Sys2Proof.Machine

/-! ### Fields of a word (40_register_access.md R160, R161) -/

/-- The test of both field operations. -/
theorem fieldLegal_iff (lo n : Nat) : fieldLegal lo n = true ↔ 1 ≤ n ∧ lo + n ≤ 32 := by
  rw [fieldLegal, Bool.and_eq_true, decide_eq_true_iff, decide_eq_true_iff]

/-- An operation on a field answers when the field is in the word, and is refused otherwise. -/
theorem returnWord_whenFieldLegal {P : Word → Prop} {w : Word} {lo n : Nat} {s : State} {o : Res}
    (ho : o = if fieldLegal lo n then .next (returnWord w s) else .refused .fieldLeavesWord)
    (hw : 1 ≤ n ∧ lo + n ≤ 32 → P w) :
    (1 ≤ n ∧ lo + n ≤ 32 → ∃ x, o = .next (returnWord x s) ∧ P x) ∧
    (¬ (1 ≤ n ∧ lo + n ≤ 32) → o = .refused .fieldLeavesWord) := by
  simp only [fieldLegal_iff] at ho
  exact ⟨fun h => ⟨w, ho.trans (if_pos h), hw h⟩, fun h => ho.trans (if_neg h)⟩

/-- The mask of `n` bits is the number of `n` ones. -/
theorem lowMask_toNat {n : Nat} (hn : n ≤ 32) : (lowMask n).toNat = 2 ^ n - 1 := by
  have hpow : 2 ^ n ≤ 2 ^ 32 := Nat.pow_le_pow_right (by decide) hn
  rw [lowMask, Nat.min_eq_left hn, BitVec.toNat_ofNat, Nat.mod_eq_of_lt (by omega)]

/-- A field as a number: the shift divides, and the mask keeps the remainder (R160). -/
theorem fieldGetWord_toNat (w : Word) (lo : Nat) {n : Nat} (hn : n ≤ 32) :
    (fieldGetWord w lo n).toNat = w.toNat / 2 ^ lo % 2 ^ n := by
  rw [fieldGetWord, BitVec.toNat_and, lowMask_toNat hn, Nat.and_two_pow_sub_one_eq_mod, BitVec.toNat_ushiftRight,
    Nat.shiftRight_eq_div_pow]

/-- The mask of a field selects the bits of the field. -/
theorem fieldMask_getLsbD (lo n : Nat) {j : Nat} (hj : j < 32) :
    (lowMask n <<< lo).getLsbD j = decide (lo ≤ j ∧ j < lo + n) := by
  rw [BitVec.getLsbD_shiftLeft, lowMask_getLsbD, Bool.eq_iff_iff]
  simp only [Bool.and_eq_true, Bool.not_eq_true', decide_eq_true_iff, decide_eq_false_iff_not]
  omega

/-- A bit of a word with a replaced field: inside the field it is a bit of the value, outside it is the old one (R161). -/
theorem fieldSetWord_getLsbD (w v : Word) (lo n : Nat) {j : Nat} (hj : j < 32) :
    (fieldSetWord w lo n v).getLsbD j = if lo ≤ j ∧ j < lo + n then v.getLsbD (j - lo) else w.getLsbD j := by
  simp only [fieldSetWord, BitVec.getLsbD_or, BitVec.getLsbD_and, BitVec.getLsbD_not, BitVec.getLsbD_shiftLeft v,
    fieldMask_getLsbD lo n hj]
  by_cases hin : lo ≤ j ∧ j < lo + n
  · obtain ⟨hlo, hhi⟩ := hin
    simp [hlo, hhi, hj, Nat.not_lt.2 hlo]
  · simp [hin, hj]

/-- Settles O25: both operations ask for a legal field, and the word they return has the field's number or its bits. -/
theorem fieldsAreReadAndReplaced : Obligations.FieldsAreReadAndReplaced := by
  refine ⟨fun s w lo n => returnWord_whenFieldLegal rfl fun ⟨_, hin⟩ => ?_,
    fun s w v lo n => returnWord_whenFieldLegal rfl fun _ j hj => ?_⟩
  · exact fieldGetWord_toNat w lo.toNat (by omega)
  · exact fieldSetWord_getLsbD w v lo.toNat n.toNat hj

end Sys2Proof.Machine
end

section
/-! PROOFS. The statements of 41_command_encoder.md: the command encoder, and what the engine sends after it. -/

namespace Sys2Proof.Machine

/-! ### The four writes of the encoder (41_command_encoder.md R181 to R189) -/

section writes
variable {s : State}

/-- The command word goes to its register (R181). -/
theorem regWrite_cmdbuf (hidle : s.bus.phase = .idle) (w : Word) :
    regWrite .cmdbuf w s = .next (s.setReg { s.reg with cmdbuf := w }) := whenIdle_idle hidle

/-- The argument's low byte goes to its register (R182). -/
theorem writeField_argLo (hidle : s.bus.phase = .idle) (arg : Word) :
    writeField .cmdargLo Field.argLo (arg &&& 0xFF#32) s =
      .next (s.setReg { s.reg with cmdargLo := arg.extractLsb' 0 8 }) := by
  have hbyte : ((arg &&& 0xFF#32) <<< Field.argLo.lo).setWidth 8 = arg.extractLsb' 0 8 := by
    apply BitVec.eq_of_getLsbD_eq
    intro n hn
    have hmask : (0xFF#32).getLsbD n = true := by revert n; decide
    rw [BitVec.getLsbD_setWidth, Field.argLo, BitVec.shiftLeft_zero, BitVec.getLsbD_and, hmask, Bool.and_true,
      BitVec.getLsbD_extractLsb', Nat.zero_add]
  calc writeField .cmdargLo Field.argLo (arg &&& 0xFF#32) s
    _ = .next (s.setReg { s.reg with cmdargLo := ((arg &&& 0xFF#32) <<< Field.argLo.lo).setWidth 8 }) :=
        whenIdle_idle hidle
    _ = _ := by rw [hbyte]

/-- The masked write of `INT.CMP_EN` sets that enable and no other flag (R183). -/
theorem writeFieldMasked_cmpEn (b : Bool) (s : State) :
    writeFieldMasked .int Field.cmpEn (if b then 1#16 else 0#16) s = .next (s.setReg { s.reg with cmpEn := b }) := by
  cases b <;> rfl

/-- A masked write of `CONFIG` with mask `0x000F` replaces bits 3:0 (R189). -/
theorem regWriteMasked_configLow (hidle : s.bus.phase = .idle) (v : Half) :
    regWriteMasked .config (mw 0x000F#16 v) s =
      .next (s.setReg { s.reg with config := (s.reg.config &&& 0xFFF0#16) ||| (v &&& 0x000F#16) }) := by
  have hselected : 0x000F#16 &&& configWritable = 0x000F#16 := by decide
  have hkept : ~~~0x000F#16 = 0xFFF0#16 := by decide
  have hmerge : mergeHalf s.reg.config 0x000F#16 (v &&& 0x000F#16) configWritable =
      (s.reg.config &&& 0xFFF0#16) ||| (v &&& 0x000F#16) := by
    rw [mergeHalf, hselected, hkept, BitVec.and_assoc, BitVec.and_self]
  rw [regWriteMasked, whenIdle_idle hidle, writtenConfig, maskHalf_mw, valueHalf_mw, hmerge]

end writes

/-- The encoder's bits of `CONFIG` are all under its mask. -/
theorem encodeConfigBits_masked (rsp : RspShape) (hasData : Bool) :
    encodeConfigBits rsp hasData &&& 0x000F#16 = encodeConfigBits rsp hasData := by
  cases rsp <;> cases hasData <;> decide

/-! ### `CMD_ENCODE` (41_command_encoder.md R180) -/

/-- The register block after `CMD_ENCODE`: the effects of its four writes together. -/
def encodedReg (useInt : Bool) (opcode : Byte) (arg : Word) (rsp : RspShape) (hasData : Bool) (r : RegBlock) : RegBlock :=
  { r with
    cmdbuf := commandWord opcode arg
    cmdargLo := arg.extractLsb' 0 8
    cmpEn := encodeCmpEn useInt rsp
    config := (r.config &&& 0xFFF0#16) ||| encodeConfigBits rsp hasData }

section cmdEncode
variable {s : State} {opcode : Byte} {arg : Word} {rsp : RspShape} {hasData : Bool}

theorem exec_cmdEncode_refused (h : 63 < opcode.toNat) :
    exec (.cmdEncode opcode arg rsp hasData) s = .refused .opcodeRange := if_pos h

/-- The idle engine lets all four writes through. -/
theorem exec_cmdEncode_idle (hop : opcode.toNat ≤ 63) (hidle : s.bus.phase = .idle) :
    exec (.cmdEncode opcode arg rsp hasData) s =
      .next (s.setReg (encodedReg s.host.useInt opcode arg rsp hasData s.reg)) := by
  change encodeCommand opcode arg rsp hasData s = _
  rw [encodeCommand, if_neg (Nat.not_lt.2 hop)]
  simp only [andThen_next, State.setReg_bus, hidle, regWrite_cmdbuf, writeField_argLo, writeFieldMasked_cmpEn,
    regWriteMasked_configLow, encodeConfigBits_masked]
  rfl

/-- The first write already asks for an idle engine. -/
theorem idle_of_exec_cmdEncode {t : State} (hop : opcode.toNat ≤ 63)
    (h : exec (.cmdEncode opcode arg rsp hasData) s = .next t) : s.bus.phase = .idle := by
  change encodeCommand opcode arg rsp hasData s = _ at h
  rw [encodeCommand, if_neg (Nat.not_lt.2 hop)] at h
  obtain ⟨_, hcmdbuf, -⟩ := andThen_eq_next.1 h
  exact (whenIdle_eq_next.1 hcmdbuf).1

/-- All `CMD_ENCODE` can do. -/
theorem exec_cmdEncode_eq_next {t : State} :
    exec (.cmdEncode opcode arg rsp hasData) s = .next t ↔
      opcode.toNat ≤ 63 ∧ s.bus.phase = .idle ∧
        t = s.setReg (encodedReg s.host.useInt opcode arg rsp hasData s.reg) := by
  constructor
  · intro h
    have hop : opcode.toNat ≤ 63 := by
      refine Nat.not_lt.1 fun hlarge => ?_
      rw [exec_cmdEncode_refused hlarge] at h
      cases h
    have hidle := idle_of_exec_cmdEncode hop h
    rw [exec_cmdEncode_idle hop hidle] at h
    cases h
    exact ⟨hop, hidle, rfl⟩
  · rintro ⟨hop, hidle, rfl⟩
    exact exec_cmdEncode_idle hop hidle

end cmdEncode

/-- Settles O26: the idle engine lets the writes through, and the merged bits of `CONFIG` are those of the table. -/
theorem cmdEncodeProgramsTheCommand : Obligations.CmdEncodeProgramsTheCommand := by
  refine fun s opcode arg rsp hasData => ⟨fun hop hidle => ?_, exec_cmdEncode_refused⟩
  rw [exec_cmdEncode_idle hop hidle]
  cases rsp <;> cases hasData <;> rfl

/-! ### The command on the bus (49_host_and_bus_interfaces.md R420) -/

/-- Bits 29:0 of the command word: the argument's upper bytes, and the opcode's low bits above them (R181). -/
theorem commandWord_getLsbD (opcode : Byte) (arg : Word) {n : Nat} (hn : n < 30) :
    (commandWord opcode arg).getLsbD n = if n < 24 then arg.getLsbD (8 + n) else opcode.getLsbD (n - 24) := by
  have hstart : (0x40000000#32).getLsbD n = false := by revert n; decide
  rw [commandWord, BitVec.getLsbD_or, BitVec.getLsbD_or, hstart, BitVec.getLsbD_shiftLeft, BitVec.getLsbD_setWidth,
    BitVec.getLsbD_ushiftRight]
  by_cases hlow : n < 24
  · simp [hlow]
  · have hshort : arg.getLsbD (8 + n) = false := BitVec.getLsbD_of_ge _ _ (by omega)
    simp [hlow, hshort, show n < 32 by omega, show n - 24 < 32 by omega]

/-- The engine sends the low six bits of the encoded opcode. -/
theorem sentOpcode_commandWord (opcode : Byte) (arg : Word) :
    sentOpcode (commandWord opcode arg) = opcode.extractLsb' 0 6 := by
  apply BitVec.eq_of_getLsbD_eq
  intro n hn
  rw [sentOpcode, BitVec.getLsbD_extractLsb', commandWord_getLsbD _ _ (by omega), if_neg (by omega)]
  simp [hn]

/-- The engine puts the encoded argument together again from its two registers. -/
theorem sentArg_commandWord (opcode : Byte) (arg : Word) :
    sentArg (commandWord opcode arg) (arg.extractLsb' 0 8) = arg := by
  apply BitVec.eq_of_getLsbD_eq
  intro n hn
  rw [sentArg, BitVec.getLsbD_append]
  split
  · next hlow => simp [hlow]
  · next hhigh =>
    have hupper : n - 8 < 24 := by omega
    rw [BitVec.getLsbD_extractLsb', Nat.zero_add, commandWord_getLsbD _ _ (by omega), if_pos hupper,
      show 8 + (n - 8) = n by omega]
    simp [hupper]

/-- A trigger sends what the command registers hold (R420). -/
theorem triggered_out (s : State) :
    (triggered s).out = .cmd (sentOpcode s.reg.cmdbuf) (sentArg s.reg.cmdbuf s.reg.cmdargLo) :: s.out := rfl

/-- Settles O27: the trigger sends from the registers the encoder has written, and they read back as the operands. -/
theorem encodedCommandReachesTheCard : Obligations.EncodedCommandReachesTheCard := by
  intro s t u opcode arg rsp hasData hencode htrigger
  obtain ⟨hop, -, rfl⟩ := exec_cmdEncode_eq_next.1 hencode
  obtain ⟨-, -, -, rfl⟩ := trigger_eq_next.1 htrigger
  refine ⟨?_, hop⟩
  rw [triggered_out, State.setReg_reg, State.setReg_out, encodedReg, sentOpcode_commandWord, sentArg_commandWord]

end Sys2Proof.Machine
end

section
/-! PROOFS. The statements of 42_response_decoder.md: what the decoders make of the window, and what a failing wait
leaves alone. -/

namespace Sys2Proof.Machine

/-! ### Repacking, byte by byte (42_response_decoder.md R201, R202, 30_encoding.md R125) -/

section bytes
variable (a b c d : Byte)

/-- Shifting a word up by a byte drops its first byte. -/
theorem bytes_shiftLeft_8 : (a ++ b ++ c ++ d : Word) <<< 8 = b ++ c ++ d ++ 0#8 := by
  apply BitVec.eq_of_getLsbD_eq
  intro n hn
  simp only [BitVec.getLsbD_shiftLeft, BitVec.getLsbD_append]
  grind

/-- Shifting a word down by a byte drops its last byte. -/
theorem bytes_ushiftRight_8 : (a ++ b ++ c ++ d : Word) >>> 8 = 0#8 ++ a ++ b ++ c := by
  apply BitVec.eq_of_getLsbD_eq
  intro n hn
  simp only [BitVec.getLsbD_ushiftRight, BitVec.getLsbD_append]
  grind

/-- Shifting a word down by three bytes leaves its first byte. -/
theorem bytes_ushiftRight_24 : (a ++ b ++ c ++ d : Word) >>> 24 = 0#8 ++ 0#8 ++ 0#8 ++ a := by
  rw [show 24 = 8 + 8 + 8 from rfl, BitVec.shiftRight_add, BitVec.shiftRight_add, bytes_ushiftRight_8,
    bytes_ushiftRight_8, bytes_ushiftRight_8]

/-- Shifting a word up by three bytes leaves its last byte. -/
theorem bytes_shiftLeft_24 : (a ++ b ++ c ++ d : Word) <<< 24 = d ++ 0#8 ++ 0#8 ++ 0#8 := by
  rw [show 24 = 8 + 8 + 8 from rfl, BitVec.shiftLeft_add, BitVec.shiftLeft_add, bytes_shiftLeft_8,
    bytes_shiftLeft_8, bytes_shiftLeft_8]

/-- The conjunction of two words, byte by byte. -/
theorem bytes_and (a' b' c' d' : Byte) :
    (a ++ b ++ c ++ d : Word) &&& (a' ++ b' ++ c' ++ d') = (a &&& a') ++ (b &&& b') ++ (c &&& c') ++ (d &&& d') := by
  rw [← BitVec.and_append, ← BitVec.and_append, ← BitVec.and_append]

/-- The disjunction of two words, byte by byte. -/
theorem bytes_or (a' b' c' d' : Byte) :
    (a ++ b ++ c ++ d : Word) ||| (a' ++ b' ++ c' ++ d') = (a ||| a') ++ (b ||| b') ++ (c ||| c') ++ (d ||| d') := by
  rw [← BitVec.or_append, ← BitVec.or_append, ← BitVec.or_append]

/-- `0xFF` keeps the last byte. -/
theorem bytes_and_0xFF : (a ++ b ++ c ++ d : Word) &&& 0xFF#32 = 0#8 ++ 0#8 ++ 0#8 ++ d := by
  rw [show 0xFF#32 = 0#8 ++ 0#8 ++ 0#8 ++ BitVec.allOnes 8 by decide, bytes_and, BitVec.and_zero, BitVec.and_zero,
    BitVec.and_zero, BitVec.and_allOnes]

/-- `0xFFFF` keeps the last two bytes. -/
theorem bytes_and_0xFFFF : (a ++ b ++ c ++ d : Word) &&& 0xFFFF#32 = 0#8 ++ 0#8 ++ c ++ d := by
  rw [show 0xFFFF#32 = 0#8 ++ 0#8 ++ BitVec.allOnes 8 ++ BitVec.allOnes 8 by decide, bytes_and, BitVec.and_zero,
    BitVec.and_zero, BitVec.and_allOnes, BitVec.and_allOnes]

/-- A half word as a register word (R125). -/
theorem setWidth_bytes : (a ++ b : Half).setWidth 32 = (0#8 ++ 0#8 ++ a ++ b : Word) := by
  apply BitVec.eq_of_getLsbD_eq
  intro n hn
  simp only [BitVec.getLsbD_setWidth, BitVec.getLsbD_append, BitVec.getLsbD_zero]
  grind

/-- A byte above three empty ones. -/
theorem byte_append_zero : (a ++ 0#24 : Word) = a ++ 0#8 ++ 0#8 ++ 0#8 := by
  apply BitVec.eq_of_getLsbD_eq
  intro n hn
  simp only [BitVec.getLsbD_append, BitVec.getLsbD_zero]
  grind

end bytes

/-- Payload and last byte of a 48-bit response (R201). -/
theorem repack48_bytes (w0 w1 w2 w3 w4 w5 : Byte) :
    repack48 (w0 ++ w1 ++ w2 ++ w3) ((w4 ++ w5 : Half).setWidth 32) = (w1 ++ w2 ++ w3 ++ w4, w5 ++ 0#24) := by
  simp only [repack48, setWidth_bytes, byte_append_zero, bytes_and_0xFF, bytes_and_0xFFFF, bytes_shiftLeft_8,
    bytes_ushiftRight_8, bytes_shiftLeft_24, bytes_or, BitVec.zero_or, BitVec.or_zero]

/-- The sixteen bytes behind the first of a 136-bit response, most significant first (R202). -/
theorem repack136_bytes (b0 b1 b2 b3 b4 b5 b6 b7 b8 b9 b10 b11 b12 b13 b14 b15 b16 b17 : Byte) :
    repack136 (b0 ++ b1 ++ b2 ++ b3, (b4 ++ b5 : Half).setWidth 32)
        (b6 ++ b7 ++ b8 ++ b9, (b10 ++ b11 : Half).setWidth 32)
        (b12 ++ b13 ++ b14 ++ b15, (b16 ++ b17 : Half).setWidth 32) =
      (b1 ++ b2 ++ b3 ++ b4, b5 ++ b6 ++ b7 ++ b8, b9 ++ b10 ++ b11 ++ b12, b13 ++ b14 ++ b15 ++ b16) := by
  simp only [repack136, setWidth_bytes, bytes_and_0xFF, bytes_and_0xFFFF, bytes_shiftLeft_8, bytes_ushiftRight_8,
    bytes_shiftLeft_24, bytes_ushiftRight_24, bytes_or, BitVec.zero_or, BitVec.or_zero]

/-! ### One poll iteration (46_bounded_waits.md R310, R315) -/

section poll
variable {b : StatusBit} {deadline : Nat} {again : Frame} {done fail : State → Res} {s : State}

/-- The awaited bit comes first (R315). -/
theorem pollThen_ready (h : readBit b s.reg = true) :
    pollThen b deadline again done fail s = done (returnCode 0 s) := by
  simp [pollThen, pollOnce, h]

/-- Without the awaited bit, the error state or the deadline ends the wait. -/
theorem pollThen_failed (h : readBit b s.reg = false) (hend : s.reg.error = true ∨ deadline ≤ s.now) :
    pollThen b deadline again done fail s = fail (waitFailure s) := by
  rcases hend with herr | hlate
  · simp [pollThen, pollOnce, h, herr]
  · simp [pollThen, pollOnce, h, hlate]

/-- With none of the three the wait goes on. -/
theorem pollThen_again (h : readBit b s.reg = false) (herr : s.reg.error = false) (hearly : s.now < deadline) :
    pollThen b deadline again done fail s = .next (pushFrames [again] s) := by
  simp [pollThen, pollOnce, h, herr, Nat.not_le_of_lt hearly]

end poll

/-! ### The decoders on a Command that exists (42_response_decoder.md R200) -/

section decoders
variable {s : State} {c : CmdSel} {k : Command}

/-- `RSP_GET48` begins with a wait that starts now. -/
theorem exec_rspGet48 (hk : currentCmd s c = some k) : exec (.rspGet48 c) s = poll48 c (deadlineOf s) s := by
  change execRspGet48 c s = _
  simp only [execRspGet48, hk]

/-- `RSP_GET136` begins with a wait that starts now, and has read no pair. -/
theorem exec_rspGet136 (hk : currentCmd s c = some k) : exec (.rspGet136 c) s = poll136 c [] (deadlineOf s) s := by
  change execRspGet136 c s = _
  simp only [execRspGet136, hk]

/-- With a full window `RSP_GET48` ends at once. -/
theorem exec_rspGet48_full (hk : currentCmd s c = some k) (hfull : s.reg.rspBufFull = true) :
    exec (.rspGet48 c) s = finish48 c (returnCode 0 s) := (exec_rspGet48 hk).trans (pollThen_ready hfull)

/-- With a full window `RSP_GET136` makes its first pass at once. -/
theorem exec_rspGet136_full (hk : currentCmd s c = some k) (hfull : s.reg.rspBufFull = true) :
    exec (.rspGet136 c) s = finishPass c [] (returnCode 0 s) := (exec_rspGet136 hk).trans (pollThen_ready hfull)

/-- A full window is read as it stands, and consumed (42_response_decoder.md R201, 70_reset_and_hazards.md R511). -/
theorem readWindow_full (hfull : s.reg.rspBufFull = true) :
    readWindow s = ((s.reg.rspHi, s.reg.rspLo.setWidth 32), consumeWindow s) := by
  have hhi : readReg (.plain .rspbufHi) s = (s.reg.rspHi, s) := if_pos hfull
  simp only [readWindow, hhi, readReg_rspbufLo_full hfull]

/-- Consuming the window changes nothing but registers and the engine. -/
theorem consumeWindow_frame (s : State) : ∃ r b, consumeWindow s = (s.setReg r).setBus b := by
  rcases refillWindow_cases (s.setReg { s.reg with rspBufFull := false }) with h | ⟨_, _, _, _, _, _, rest, -, -, h⟩
  · exact ⟨{ s.reg with rspBufFull := false }, s.bus, h⟩
  · exact ⟨_, { s.bus with rspStream := rest }, h⟩

@[simp] theorem consumeWindow_host (s : State) : (consumeWindow s).host = s.host := by
  obtain ⟨r, b, h⟩ := consumeWindow_frame s
  rw [h, State.setBus_host, State.setReg_host]

@[simp] theorem consumeWindow_actor (s : State) : (consumeWindow s).actor = s.actor := by
  obtain ⟨r, b, h⟩ := consumeWindow_frame s
  rw [h, State.setBus_actor, State.setReg_actor]

/-- A selected Command is replaced by its image. -/
theorem updateCmd_some {f : Command → Command} (hk : currentCmd s c = some k) :
    updateCmd c f s = setCurrentCmd c (f k) s := by
  simp only [updateCmd, hk]

/-- The Command a decoder writes is the one it was started on: neither the wait nor the window touches it. -/
theorem currentCmd_of_host {t : State} (h : t.host = s.host) : currentCmd t c = currentCmd s c := by
  simp only [currentCmd, h]

end decoders

/-- Settles O28: the wait is over at once, and the window's six bytes are repacked. -/
theorem rspGet48Repacks : Obligations.RspGet48Repacks := by
  refine fun s c => ⟨rfl, fun k w0 w1 w2 w3 w4 w5 hk hfull hhi hlo => ?_⟩
  have hfull' : (returnCode 0 s).reg.rspBufFull = true := by rwa [returnCode_reg]
  have hk' : currentCmd (consumeWindow (returnCode 0 s)) c = some k := (currentCmd_of_host (by simp)).trans hk
  calc exec (.rspGet48 c) s
    _ = finish48 c (returnCode 0 s) := exec_rspGet48_full hk hfull
    _ = .next (setCurrentCmd c (with48 (s.reg.rspHi, s.reg.rspLo.setWidth 32) k) (consumeWindow (returnCode 0 s))) := by
        rw [finish48, readWindow_full hfull', updateCmd_some hk', returnCode_reg]
    _ = _ := by rw [with48, hhi, hlo, repack48_bytes]

/-! ### A wait that does not succeed (42_response_decoder.md R203) -/

/-- Settles O30: a decoder's wait reads the window only behind `RSP_BUF_FULL`. -/
theorem decodersAbortSilently : Obligations.DecodersAbortSilently := by
  intro s c deadline pairs f hf hempty
  refine ⟨fun hend => ?_, fun herr hearly => ?_, fun hc herr => ?_⟩
  · rcases hf with rfl | rfl <;> exact pollThen_failed hempty hend
  · rcases hf with rfl | rfl <;> exact pollThen_again hempty herr hearly
  · obtain ⟨k, hk⟩ := Option.isSome_iff_exists.1 hc
    exact ⟨(exec_rspGet48 hk).trans (pollThen_failed hempty (.inl herr)),
      (exec_rspGet136 hk).trans (pollThen_failed hempty (.inl herr))⟩

/-! ### The three passes of `RSP_GET136` (42_response_decoder.md R202) -/

/-- The result of a wait is no register. -/
theorem returnCode_setReg (n : Int) (s : State) (r : RegBlock) :
    returnCode n (s.setReg r) = (returnCode n s).setReg r := by
  simp only [returnCode, State.setReg_actor, actorCtx]
  cases s.actor <;> rfl

/-- The result of a wait is no part of the engine. -/
theorem returnCode_setBus (n : Int) (s : State) (b : BusEngine) :
    returnCode n (s.setBus b) = (returnCode n s).setBus b := by
  simp only [returnCode, State.setBus_actor, actorCtx]
  cases s.actor <;> rfl

/-- Returning a result and consuming the window commute: they work on different fields. -/
theorem returnCode_consumeWindow (n : Int) (s : State) :
    returnCode n (consumeWindow s) = consumeWindow (returnCode n s) := by
  rw [consumeWindow, consumeWindow, returnCode_reg, ← returnCode_setReg]
  unfold refillWindow
  rw [returnCode_bus, returnCode_reg]
  split
  · split
    · rfl
    · rw [returnCode_setBus, returnCode_setReg]
  · rfl

section turns
variable {s : State} {c : CmdSel}

/-- A result that the acting agent returns again. -/
theorem returnCode_returnCode (hactor : s.actor ≠ .b) (n m : Int) :
    returnCode n (returnCode m s) = returnCode n s := by
  simp only [returnCode, setCtx_actor, actorCtx_setCtx _ _ hactor, setCtx_setCtx]

/-- Taking the frame that was just pushed and returning a result leaves nothing of the frame. -/
theorem returnCode_popFrame_pushFrames (hactor : s.actor ≠ .b) (n : Int) (f : Frame) :
    returnCode n (popFrame (actorCtx s).stack (pushFrames [f] s)) = returnCode n s := by
  simp only [returnCode, popFrame, pushFrames, setCtx_actor, setCtx_setCtx, actorCtx_setCtx _ _ hactor]

/-- The turn of an agent that has just pushed a frame runs it. -/
theorem resumeActor_pushFrames (hactor : s.actor ≠ .b) (run : Instr → State → Res) (f : Frame) :
    resumeActor run (pushFrames [f] s) = runFrame run f (popFrame (actorCtx s).stack (pushFrames [f] s)) := by
  rw [resumeActor, stack_pushFrames s _ hactor, List.singleton_append]

/-- The turn of an agent that waits for a window that is full: the pass goes on. -/
theorem resumeActor_rsp136_full (hactor : s.actor ≠ .b) (hfull : s.reg.rspBufFull = true)
    (pairs : List (Word × Word)) (deadline : Nat) :
    resumeActor exec (pushFrames [.rsp136 c pairs deadline] s) = finishPass c pairs (returnCode 0 s) := by
  rw [resumeActor_pushFrames hactor, ← returnCode_popFrame_pushFrames hactor]
  refine pollThen_ready ?_
  change (popFrame _ _).reg.rspBufFull = true
  rw [popFrame, setCtx_reg, pushFrames_reg, hfull]

/-- The first two passes add their pair and wait for the next window. -/
theorem finishPass_early (hfull : s.reg.rspBufFull = true) {pairs : List (Word × Word)} (hearly : pairs.length < 2) :
    finishPass c pairs s =
      .next (pushFrames [.rsp136 c (pairs ++ [(s.reg.rspHi, s.reg.rspLo.setWidth 32)]) (deadlineOf s)]
        (consumeWindow s)) := by
  rw [finishPass, readWindow_full hfull]
  match pairs, hearly with
  | [], _ => rfl
  | [_], _ => rfl

/-- The third pass writes the four response words. -/
theorem finishPass_third (hfull : s.reg.rspBufFull = true) (p0 p1 : Word × Word) :
    finishPass c [p0, p1] s =
      .next (updateCmd c (with136 p0 p1 (s.reg.rspHi, s.reg.rspLo.setWidth 32)) (consumeWindow s)) := by
  rw [finishPass, readWindow_full hfull]
  rfl

/-- Three full windows, one turn each: the pairs of all three are written together (R202). -/
theorem rspGet136_three_turns {k : Command} (hactor : s.actor ≠ .b) (hk : currentCmd s c = some k)
    {t0 t1 t2 : State} (ht0 : t0 = returnCode 0 s) (ht1 : t1 = consumeWindow t0) (ht2 : t2 = consumeWindow t1)
    (h0 : t0.reg.rspBufFull = true) (h1 : t1.reg.rspBufFull = true) (h2 : t2.reg.rspBufFull = true) :
    ∃ s1 s2, exec (.rspGet136 c) s = .next s1 ∧ resumeActor exec s1 = .next s2 ∧
      resumeActor exec s2 = .next (setCurrentCmd c
        (with136 (t0.reg.rspHi, t0.reg.rspLo.setWidth 32) (t1.reg.rspHi, t1.reg.rspLo.setWidth 32)
          (t2.reg.rspHi, t2.reg.rspLo.setWidth 32) k) (consumeWindow t2)) := by
  have hfull : s.reg.rspBufFull = true := by rwa [ht0, returnCode_reg] at h0
  have hret0 : returnCode 0 t0 = t0 := by rw [ht0, returnCode_returnCode hactor]
  have hret1 : returnCode 0 t1 = t1 := by rw [ht1, returnCode_consumeWindow, hret0]
  have hret2 : returnCode 0 t2 = t2 := by rw [ht2, returnCode_consumeWindow, hret1]
  have hactor1 : t1.actor ≠ .b := by simpa [ht1, ht0] using hactor
  have hactor2 : t2.actor ≠ .b := by simpa [ht2] using hactor1
  have hk2 : currentCmd (consumeWindow t2) c = some k :=
    (currentCmd_of_host (by simp [ht2, ht1, ht0])).trans hk
  have hfirst := exec_rspGet136_full hk hfull
  have hsecond := resumeActor_rsp136_full (c := c) hactor1 h1 [(t0.reg.rspHi, t0.reg.rspLo.setWidth 32)] (deadlineOf t0)
  have hthird := resumeActor_rsp136_full (c := c) hactor2 h2
    [(t0.reg.rspHi, t0.reg.rspLo.setWidth 32), (t1.reg.rspHi, t1.reg.rspLo.setWidth 32)] (deadlineOf t1)
  rw [← ht0, finishPass_early h0 (by decide), List.nil_append, ← ht1] at hfirst
  rw [hret1, finishPass_early h1 (Nat.lt_succ_self _), List.singleton_append, ← ht2] at hsecond
  rw [hret2, finishPass_third h2, updateCmd_some hk2] at hthird
  exact ⟨_, _, hfirst, hsecond, hthird⟩

end turns

/-- A window that nothing can fill again is left empty (42_response_decoder.md R206). -/
theorem consumeWindow_drained {s : State} (h : s.bus.rspStream = []) :
    consumeWindow s = s.setReg { s.reg with rspBufFull := false } :=
  refillWindow_short (by rw [State.setReg_bus, h]; decide)

/-- Settles O29: the first pass or its wait, then three turns over the three windows that the eighteen bytes fill. -/
theorem rspGet136Reassembles : Obligations.RspGet136Reassembles := by
  intro s c r k hactor hmrq hsel
  have hk : currentCmd s c = some k := by rw [currentCmd, hmrq, Option.bind_some, hsel]
  refine ⟨fun hfull => ?_, fun hempty herr hwait => ?_, ?_⟩
  · rw [exec_rspGet136_full hk hfull, finishPass_early (by rwa [returnCode_reg]) (by decide), List.nil_append,
      deadlineOf, returnCode_reg, returnCode_now, returnCode_cfg]
  · exact (exec_rspGet136 hk).trans (pollThen_again hempty herr (Nat.lt_add_of_pos_right hwait))
  · intro b0 b1 b2 b3 b4 b5 b6 b7 b8 b9 b10 b11 b12 b13 b14 b15 b16 b17 hfull hhi hlo hstream d
    generalize ht0 : returnCode 0 s = t0
    have hreg : t0.reg = s.reg := by rw [← ht0, returnCode_reg]
    have hbus : t0.bus = s.bus := by rw [← ht0, returnCode_bus]
    have hhost : t0.host = s.host := by rw [← ht0, returnCode_host]
    have hfull0 : t0.reg.rspBufFull = true := by rw [hreg, hfull]
    have ht1 := consumeWindow_refilled hfull0 (by rw [hbus, hstream])
    have ht2 := consumeWindow_refilled (s := consumeWindow t0) (by rw [ht1]; exact hfull0) (by rw [ht1]; rfl)
    have ht3 := consumeWindow_drained (s := consumeWindow (consumeWindow t0)) (by rw [ht2]; rfl)
    obtain ⟨s1, s2, hfirst, hsecond, hthird⟩ := rspGet136_three_turns hactor hk ht0.symm rfl rfl hfull0
      (by rw [ht1]; exact hfull0) (by rw [ht2, ht1]; exact hfull0)
    refine ⟨s1, s2, hfirst, hsecond, hthird.trans ?_⟩
    rw [ht3, ht2, ht1]
    simp only [State.setBus_reg, State.setReg_reg, State.setBus_bus, hreg, hbus, hhi, hlo, with136,
      repack136_bytes, setCurrentCmd, State.setReg_host, State.setBus_host, hhost, hmrq, Option.map_some]
    cases c <;> rfl

end Sys2Proof.Machine
end

section
/-! PROOFS. The statements of 43_data_path_configurator.md: the registers of the transfer, and the descriptor table with
the hand-over of the buffers. -/

namespace Sys2Proof.Machine

/-! ### Writes that keep their whole value (40_register_access.md R163, R164) -/

/-- A word of `n` bits has no bit above a mask of `n` ones. -/
theorem and_lowMask_of_lt {w : Word} {n : Nat} (h : w.toNat < 2 ^ n) : w &&& lowMask n = w := by
  apply BitVec.eq_of_getLsbD_eq
  intro i _
  rw [and_lowMask_getLsbD]
  by_cases hi : i < n
  · simp [hi]
  · have hbit : w.getLsbD i = false :=
      Nat.testBit_lt_two_pow (Nat.lt_of_lt_of_le h (Nat.pow_le_pow_right (by decide) (Nat.not_lt.1 hi)))
    simp [hi, hbit]

/-- A number from 1 to `2 ^ n`, less one, fits the `n` writable bits of a count register (R221, R222). -/
theorem lessOne_and_lowMask {x n : Nat} (hpos : 1 ≤ x) (hle : x ≤ 2 ^ n) :
    BitVec.ofNat 32 (x - 1) &&& lowMask n = BitVec.ofNat 32 (x - 1) := by
  refine and_lowMask_of_lt ?_
  rw [BitVec.toNat_ofNat]
  exact Nat.lt_of_le_of_lt (Nat.mod_le _ _) (by omega)

section idle
variable {s : State}

/-- The block size register takes the block size less one (R221). -/
theorem writeField_blksize (hidle : s.bus.phase = .idle) {x : Nat} (hpos : 1 ≤ x) (hle : x ≤ 2 ^ s.cfg.blksizeW) :
    writeField .blksize Field.blkSizeM1 (BitVec.ofNat 32 (x - 1)) s =
      .next (s.setReg { s.reg with blksize := BitVec.ofNat 32 (x - 1) }) := by
  rw [writeField, hasOneField, if_pos rfl, regWrite, whenIdle_idle hidle, Field.blkSizeM1, BitVec.shiftLeft_zero,
    blksizeWritable, lessOne_and_lowMask hpos hle]

/-- The block count register takes the block count less one (R222). -/
theorem writeField_blkcnt (hidle : s.bus.phase = .idle) {x : Nat} (hpos : 1 ≤ x) (hle : x ≤ 2 ^ s.cfg.blkcntW) :
    writeField .blkcnt Field.blkCntM1 (BitVec.ofNat 32 (x - 1)) s =
      .next (s.setReg { s.reg with blkcnt := BitVec.ofNat 32 (x - 1) }) := by
  rw [writeField, hasOneField, if_pos rfl, regWrite, whenIdle_idle hidle, Field.blkCntM1, BitVec.shiftLeft_zero,
    blkcntWritable, lessOne_and_lowMask hpos hle]

/-- A masked write of `CONFIG` under a mask of writable bits replaces just the masked bits (R164). -/
theorem regWriteMasked_config (hidle : s.bus.phase = .idle) {m : Half} (hm : m &&& configWritable = m) (v : Half) :
    regWriteMasked .config (mw m v) s =
      .next (s.setReg { s.reg with config := (s.reg.config &&& ~~~m) ||| (v &&& m) }) := by
  rw [regWriteMasked, whenIdle_idle hidle, writtenConfig, maskHalf_mw, valueHalf_mw, mergeHalf, hm, BitVec.and_assoc,
    BitVec.and_self]

/-- `DATA_CFG_DMA` clears `PIO_EN` and leaves the rest of `CONFIG` alone (R226). -/
theorem writeFieldMasked_pioEn_zero (hidle : s.bus.phase = .idle) :
    writeFieldMasked .config Field.pioEn 0#16 s =
      .next (s.setReg { s.reg with config := s.reg.config &&& 0xFEFF#16 }) := by
  have hmask : Field.pioEn.mask = 0x0100#16 := by decide
  rw [writeFieldMasked, writeFieldWord, hmask, BitVec.zero_shiftLeft, regWriteMasked_config hidle (by decide),
    BitVec.zero_and, BitVec.or_zero]
  rfl

end idle

/-- Clearing bits before setting them changes nothing. -/
theorem clear_or_set (x m : Half) : (x &&& ~~~m) ||| m = x ||| m := by
  apply BitVec.eq_of_getLsbD_eq
  intro i hi
  rw [BitVec.getLsbD_or, BitVec.getLsbD_or, BitVec.getLsbD_and, BitVec.getLsbD_not]
  cases m.getLsbD i <;> simp [hi]

/-! ### `DATA_CFG` (R220 to R225, R230) -/

/-- The register block after the common part of `DATA_CFG`: the effects of its three writes together (R221 to R225). -/
def transferReg (c : Cfg) (d : DataDesc) (r : RegBlock) : RegBlock :=
  { r with
    blksize := BitVec.ofNat 32 (d.blksz - 1)
    blkcnt := BitVec.ofNat 32 (d.blocks - 1)
    config := (r.config &&& 0xFF0F#16) ||| dataConfigBits c.lenModeNoAutostop d.dir }

/-- The bits of `DATA_CFG` are all under its mask. -/
theorem dataConfigBits_masked (noAutostop : Bool) (dir : Dir) :
    dataConfigBits noAutostop dir &&& 0x00F0#16 = dataConfigBits noAutostop dir := by
  cases noAutostop <;> cases dir <;> decide

/-- The block sizes and counts that `DATA_CFG` takes. -/
theorem blocksLegal_iff (c : Cfg) (d : DataDesc) :
    blocksLegal c d = true ↔ 1 ≤ d.blksz ∧ d.blksz ≤ 2 ^ c.blksizeW ∧ 1 ≤ d.blocks ∧ d.blocks ≤ 2 ^ c.blkcntW := by
  simp only [blocksLegal, Bool.and_eq_true, decide_eq_true_iff, and_assoc]

section dataCfg
variable {s : State} {d : DataDesc}

/-- The idle engine lets the three writes of the common part through. -/
theorem configureCommon_idle (hidle : s.bus.phase = .idle) (hblocks : blocksLegal s.cfg d = true) :
    configureCommon d s = .next (s.setReg (transferReg s.cfg d s.reg)) := by
  obtain ⟨hsz, hszW, hcnt, hcntW⟩ := (blocksLegal_iff _ _).1 hblocks
  rw [configureCommon, writeField_blksize hidle hsz hszW, andThen_next,
    writeField_blkcnt ?_ hcnt ?_, andThen_next, regWriteMasked_config ?_ (by decide), dataConfigBits_masked]
  · rfl
  all_goals assumption

/-- The PIO branch sets `PIO_EN` and `RX4B_EN` (R230). -/
theorem configurePio_idle (hidle : s.bus.phase = .idle) :
    configurePio s = .next (returnCode 0 (s.setReg { s.reg with config := s.reg.config ||| 0x0300#16 })) := by
  rw [configurePio, regWriteMasked_config hidle (by decide), andThen_next, BitVec.and_self, clear_or_set]

theorem exec_dataCfgPio (hd : currentData s = some d) : exec .dataCfgPio s = configurePio s := by
  change execDataCfgPio s = _
  rw [execDataCfgPio, hd]

/-- `DATA_CFG` goes on as the branch of the Host's path, behind the common part. -/
theorem exec_dataCfg (hd : currentData s = some d) (hidle : s.bus.phase = .idle)
    (hblocks : blocksLegal s.cfg d = true) :
    (s.host.path = .pio → exec .dataCfg s = configurePio (s.setReg (transferReg s.cfg d s.reg))) ∧
    (s.host.path = .dma → exec .dataCfg s = configureDma d (s.setReg (transferReg s.cfg d s.reg))) := by
  change (_ → execDataCfg s = _) ∧ (_ → execDataCfg s = _)
  constructor <;> intro hpath <;>
    simp only [execDataCfg, hd, if_pos hblocks, configureCommon_idle hidle hblocks, andThen_next, State.setReg_host,
      hpath]

end dataCfg

/-- The table of R223 to R225 for a read, -/
theorem dataConfigBits_rd (noAutostop : Bool) :
    dataConfigBits noAutostop .rd = (if noAutostop then 0x10#16 else 0#16) ||| 0xC0#16 := rfl

/-- and for a write. -/
theorem dataConfigBits_wr (noAutostop : Bool) :
    dataConfigBits noAutostop .wr = (if noAutostop then 0x10#16 else 0#16) ||| 0x20#16 := rfl

/-- Settles O31: the idle engine lets the writes through, and the Data Descriptor is still the same at the branch. -/
theorem dataCfgProgramsTheTransfer : Obligations.DataCfgProgramsTheTransfer := by
  intro s d _ hd hidle
  refine ⟨(exec_dataCfgPio hd).trans (configurePio_idle hidle), ?_⟩
  intro hblocks t
  replace hblocks := (blocksLegal_iff _ _).2 hblocks
  have ht : t = s.setReg (transferReg s.cfg d s.reg) := by
    cases hdir : d.dir with
    | rd => simp only [t, transferReg, hdir, dataConfigBits_rd, BitVec.or_assoc]
    | wr => simp only [t, transferReg, hdir, dataConfigBits_wr, BitVec.or_assoc]
  have hdt : currentData t = some d := hd
  obtain ⟨hpio, hdma⟩ := exec_dataCfg hd hidle hblocks
  rw [← ht] at hpio hdma
  exact ⟨fun hpath => (hpio hpath).trans (configurePio_idle hidle),
    fun hpath => (hdma hpath).trans (exec_dataCfgDma hdt).symm⟩

/-! ### The mappings that the table can hold (R228, 20_memory.md R87) -/

/-- A slot can hold the segments of a positive whole number of sectors, at most 65535, in the DMA address space. -/
theorem slotExpressible_iff (c : Cfg) (m : Mapped) :
    slotExpressible c m = true ↔ 0 < m.len ∧ m.len % c.sectorSize = 0 ∧ m.len / c.sectorSize ≤ 65535 ∧
      m.addr.toNat + m.len ≤ 2 ^ c.addrW := by
  simp only [slotExpressible, Bool.and_eq_true, decide_eq_true_iff, beq_iff_eq, and_assoc]

/-- The table can hold a mapping that is as long as the transfer, when each segment fits a slot. -/
theorem mappingExpressible_iff (c : Cfg) (d : DataDesc) (ms : List Mapped) :
    mappingExpressible c d ms = true ↔ (∀ m ∈ ms, slotExpressible c m = true) ∧ mappedLength ms = d.size := by
  simp only [mappingExpressible, Bool.and_eq_true, List.all_eq_true, beq_iff_eq]

/-- A segment that no slot can hold is empty, no whole number of sectors, too long, or leaves the address space. -/
theorem not_slotExpressible {c : Cfg} {m : Mapped}
    (h : m.len = 0 ∨ m.len % c.sectorSize ≠ 0 ∨ 65535 < m.len / c.sectorSize ∨ 2 ^ c.addrW < m.addr.toNat + m.len) :
    ¬ slotExpressible c m = true := by
  rw [slotExpressible_iff]
  rintro ⟨hpos, hwhole, hcount, hend⟩
  rcases h with h | h | h | h
  · exact absurd h hpos.ne'
  · exact h hwhole
  · exact absurd hcount (Nat.not_le.2 h)
  · exact absurd hend (Nat.not_le.2 h)

/-! ### The slots of a mapping (R228) -/

/-- The slot that holds a mapped segment. -/
def slotOf (c : Cfg) (m : Mapped) : Slot := { addr := m.addr, sectors := BitVec.ofNat 16 (m.len / c.sectorSize) }

/-- The slots with the segments of a mapping in slot `k` and those behind it. -/
def fillSlots (c : Cfg) : Nat → List Mapped → List Slot → List Slot
  | _, [], slots => slots
  | k, m :: ms, slots => fillSlots c (k + 1) ms (setEntryAt Slot.zero slots k (slotOf c m))

/-- A slot before the mapping's first, or behind its last, keeps its value. -/
theorem entryAt_fillSlots_other (c : Cfg) (ms : List Mapped) {k j : Nat} (slots : List Slot)
    (hj : j < k ∨ k + ms.length ≤ j) : entryAt Slot.zero (fillSlots c k ms slots) j = entryAt Slot.zero slots j := by
  induction ms generalizing k slots with
  | nil => rfl
  | cons m ms ih =>
    rw [List.length_cons] at hj
    rw [fillSlots, ih _ (by omega), entryAt_setEntryAt_other _ _ _ _ _ (by omega)]

/-- Segment `n` of the mapping stands in slot `k + n`. -/
theorem entryAt_fillSlots (c : Cfg) (ms : List Mapped) (k : Nat) (slots : List Slot) {n : Nat} (hn : n < ms.length) :
    entryAt Slot.zero (fillSlots c k ms slots) (k + n) = slotOf c ms[n] := by
  induction ms generalizing k slots n with
  | nil => exact absurd hn (Nat.not_lt_zero n)
  | cons m ms ih =>
    cases n with
    | zero =>
      rw [fillSlots, Nat.add_zero k, entryAt_fillSlots_other _ _ _ (.inl (Nat.lt_add_one k)), entryAt_setEntryAt_same]
      rfl
    | succ n =>
      rw [fillSlots, show k + (n + 1) = k + 1 + n by omega]
      exact ih (k + 1) _ (Nat.lt_of_succ_lt_succ hn)

section slots
variable {s : State} {k : Nat}

/-- A slot's base register takes an address of the DMA address space. -/
theorem writeField_dmaBase (hidle : s.bus.phase = .idle) (hk : k < s.cfg.maxSeg) {a : Word}
    (ha : a.toNat < 2 ^ s.cfg.addrW) :
    writeField (.dmaBase k) Field.addr a s = .next (s.setReg (s.reg.setSlot k { s.reg.slot k with addr := a })) := by
  have hmapped : slotMapped s k = true := decide_eq_true hk
  rw [writeField, hasOneField, if_pos rfl, Field.addr, BitVec.shiftLeft_zero, regWrite, writeSlotAddr, if_pos hmapped,
    whenIdle_idle hidle, addrWritable, and_lowMask_of_lt ha]

/-- A slot's size register takes the low half of a count. -/
theorem writeField_dmaSize (hidle : s.bus.phase = .idle) (hk : k < s.cfg.maxSeg) (n : Nat) :
    writeField (.dmaSize k) Field.sectors (BitVec.ofNat 32 n) s =
      .next (s.setReg (s.reg.setSlot k { s.reg.slot k with sectors := BitVec.ofNat 16 n })) := by
  have hmapped : slotMapped s k = true := decide_eq_true hk
  rw [writeField, hasOneField, if_pos rfl, Field.sectors, BitVec.shiftLeft_zero, regWrite, writeSlotSectors,
    if_pos hmapped, whenIdle_idle hidle, BitVec.setWidth_ofNat_of_le (by decide)]

/-- Both writes of a slot together. -/
theorem writeSlots_cons (hidle : s.bus.phase = .idle) (hk : k < s.cfg.maxSeg) {m : Mapped}
    (hm : slotExpressible s.cfg m = true) (ms : List Mapped) :
    writeSlots k (m :: ms) s = writeSlots (k + 1) ms (s.setReg (s.reg.setSlot k (slotOf s.cfg m))) := by
  obtain ⟨hpos, -, -, hend⟩ := (slotExpressible_iff _ _).1 hm
  rw [writeSlots, writeField_dmaBase hidle hk (by omega), andThen_next, writeField_dmaSize ?_ ?_, andThen_next,
    State.setReg_reg, slot_setSlot_same, setSlot_setSlot, State.setReg_setReg]
  · rfl
  all_goals assumption

/-- The idle engine lets all writes of a mapping through that the table can hold. -/
theorem writeSlots_idle {ms : List Mapped} (hidle : s.bus.phase = .idle) (hlen : k + ms.length ≤ s.cfg.maxSeg)
    (hms : ∀ m ∈ ms, slotExpressible s.cfg m = true) :
    writeSlots k ms s = .next (s.setReg { s.reg with slots := fillSlots s.cfg k ms s.reg.slots }) := by
  induction ms generalizing k s with
  | nil => rfl
  | cons m ms ih =>
    rw [List.forall_mem_cons] at hms
    obtain ⟨hm, hms⟩ := hms
    rw [List.length_cons] at hlen
    rw [writeSlots_cons hidle (by omega) hm, ih ?_ ?_ ?_]
    · rfl
    · exact hidle
    · change _ ≤ s.cfg.maxSeg
      omega
    · exact hms

end slots

/-! ### The hand-over of the buffers (20_memory.md R87, R90, entry 12) -/

section handOver
variable (d : DataDesc) (ms : List Mapped) (s : State)

/-- The hand-over changes the Host's mapping, the engine's count of bytes and the DMA address space. -/
theorem handOver_eq : handOver d ms s =
    ((s.setHost { s.host with dmaMapped := some ms }).setBus { s.bus with arrived := 0 }).setDmaMem
      (handOver d ms s).dmaMem := by
  unfold handOver
  cases d.dir <;> rfl

@[simp] theorem handOver_cfg : (handOver d ms s).cfg = s.cfg := by rw [handOver_eq]; rfl
@[simp] theorem handOver_reg : (handOver d ms s).reg = s.reg := by rw [handOver_eq]; rfl
@[simp] theorem handOver_bus : (handOver d ms s).bus = { s.bus with arrived := 0 } := by rw [handOver_eq]; rfl
@[simp] theorem handOver_host : (handOver d ms s).host = { s.host with dmaMapped := some ms } := by
  rw [handOver_eq]; rfl
@[simp] theorem handOver_bufMem : (handOver d ms s).bufMem = s.bufMem := by rw [handOver_eq]; rfl
@[simp] theorem handOver_out : (handOver d ms s).out = s.out := by rw [handOver_eq]; rfl

variable {d}

/-- A read hands no byte over. -/
theorem handOver_dmaMem_rd (hd : d.dir = .rd) : (handOver d ms s).dmaMem = s.dmaMem := by
  simp [handOver, hd]

/-- A write hands over the bytes of its buffers, in bus order. -/
theorem handOver_dmaMem_wr (hd : d.dir = .wr) :
    (handOver d ms s).dmaMem = writeKeys s.dmaMem (mappedKeys ms) (readKeys s.bufMem (bufKeys d.sg)) := by
  simp [handOver, hd]

end handOver

/-! ### `DATA_CFG_DMA` (R226 to R229) -/

/-- The state after `DATA_CFG_DMA` has configured the mapping `ms`, but for its return value: the effects of the
hand-over and of all its writes together. -/
def dmaConfigured (d : DataDesc) (ms : List Mapped) (s : State) : State :=
  ((handOver d ms s).setReg { s.reg with
    slots := fillSlots s.cfg 0 ms s.reg.slots
    config := s.reg.config &&& 0xFEFF#16
    cmpEn := s.reg.cmpEn || wantsDmaInterrupt s d }).setHost { s.host with
      dmaMapped := some ms
      dmaIntReq := s.host.dmaIntReq || wantsDmaInterrupt s d }

/-- The enable and the Host's note that goes with it are set together, or neither is (R229). -/
theorem requestDmaInterrupt_eq (d : DataDesc) (s : State) :
    requestDmaInterrupt d s = .next ((s.setReg { s.reg with cmpEn := s.reg.cmpEn || wantsDmaInterrupt s d }).setHost
      { s.host with dmaIntReq := s.host.dmaIntReq || wantsDmaInterrupt s d }) := by
  rw [requestDmaInterrupt]
  cases wantsDmaInterrupt s d with
  | true =>
    rw [if_pos rfl, Bool.or_true, Bool.or_true]
    exact congrArg (andThen · _) (writeFieldMasked_cmpEn true s)
  | false =>
    rw [Bool.or_false, Bool.or_false]
    rfl

section configureDma
variable {s t : State} {d : DataDesc} {ms : List Mapped}

/-- A mapping that fits in number but not in its segments or its length is refused (entry 31). -/
theorem configureDma_refused (hms : dmaMap s d.sg d.dir = ms) (hfits : mappingFails s.cfg ms = false)
    (h : ¬ mappingExpressible s.cfg d ms = true) : configureDma d s = .refused .mappingNotExpressible := by
  subst hms
  simp [configureDma, hfits, h]

/-- A mapping that the table can hold is configured by the writes behind the hand-over. -/
theorem configureDma_expressible (hms : dmaMap s d.sg d.dir = ms) (hfits : mappingFails s.cfg ms = false)
    (hexpr : mappingExpressible s.cfg d ms = true) :
    configureDma d s =
      andThen (writeFieldMasked .config Field.pioEn 0#16 (handOver d ms s)) fun s =>
      andThen (writeSlots 0 ms s) fun s =>
      andThen (requestDmaInterrupt d s) fun s => .next (returnCode 0 s) := by
  subst hms
  simp only [configureDma, hfits, hexpr, Bool.not_true, Bool.false_eq_true, if_false]

/-- The idle engine lets all these writes through. -/
theorem configureDma_idle (hms : dmaMap s d.sg d.dir = ms) (hfits : mappingFails s.cfg ms = false)
    (hexpr : mappingExpressible s.cfg d ms = true) (hidle : s.bus.phase = .idle) :
    configureDma d s = .next (returnCode 0 (dmaConfigured d ms s)) := by
  obtain ⟨hslots, -⟩ := (mappingExpressible_iff _ _ _).1 hexpr
  have hlen : ms.length ≤ s.cfg.maxSeg := by
    refine Nat.not_lt.1 fun hlarge => ?_
    rw [(mappingFails_iff _ _).2 (.inr hlarge)] at hfits
    cases hfits
  rw [configureDma_expressible hms hfits hexpr, writeFieldMasked_pioEn_zero (by rw [handOver_bus, hidle]), andThen_next,
    writeSlots_idle, andThen_next, requestDmaInterrupt_eq, andThen_next]
  · simp only [dmaConfigured, wantsDmaInterrupt, State.setReg_reg, State.setReg_cfg, State.setReg_host,
      State.setReg_setReg, handOver_reg, handOver_cfg, handOver_host]
  · simpa using hidle
  · simpa using hlen
  · simpa using hslots

/-- All `DATA_CFG_DMA` can do: the mapping fails, or it is configured, and then the engine was idle. -/
theorem configureDma_eq_next (hms : dmaMap s d.sg d.dir = ms) (h : configureDma d s = .next t) :
    (mappingFails s.cfg ms = true ∧
      t = returnCode (-1) (setCurrentData { d with error := .dmaMap } (freeBuffers d s))) ∨
    t = returnCode 0 (dmaConfigured d ms s) := by
  by_cases hfails : mappingFails s.cfg ms = true
  · rw [configureDma_fails (by rw [hms, hfails])] at h
    cases h
    exact .inl ⟨hfails, rfl⟩
  · have hfits : mappingFails s.cfg ms = false := Bool.eq_false_iff.2 hfails
    by_cases hexpr : mappingExpressible s.cfg d ms = true
    · have hidle : s.bus.phase = .idle := by
        rw [configureDma_expressible hms hfits hexpr] at h
        obtain ⟨_, hconfig, -⟩ := andThen_eq_next.1 h
        obtain ⟨hidle, -⟩ := whenIdle_eq_next.1 hconfig
        rwa [handOver_bus] at hidle
      rw [configureDma_idle hms hfits hexpr hidle] at h
      cases h
      exact .inr rfl
    · rw [configureDma_refused hms hfits hexpr] at h
      cases h

end configureDma

/-- The DMA address space after `DATA_CFG_DMA` is the one the hand-over leaves. -/
theorem dmaConfigured_dmaMem (d : DataDesc) (ms : List Mapped) (s : State) :
    (dmaConfigured d ms s).dmaMem = (handOver d ms s).dmaMem := rfl

/-- A mapping of at least one segment, and of no more than the table has slots, does not fail. -/
theorem mappingFails_false {c : Cfg} {ms : List Mapped} (hne : ms ≠ []) (hlen : ms.length ≤ c.maxSeg) :
    mappingFails c ms = false := by
  rw [Bool.eq_false_iff, ne_eq, mappingFails_iff]
  rintro (h | h)
  · exact hne h
  · exact absurd hlen (Nat.not_le.2 h)

/-- The buffers of a failing transfer are no part of the Host. -/
theorem freeBuffers_host (d : DataDesc) (s : State) : (freeBuffers d s).host = s.host := by
  unfold freeBuffers
  cases d.dir <;> rfl

/-- A `DATA_CFG_DMA` that leaves a mapping where there was none has configured it. -/
theorem exec_dataCfgDma_mapped {s t : State} {d : DataDesc} (hd : currentData s = some d)
    (h : exec .dataCfgDma s = .next t) (ht : t.host.dmaMapped = some (dmaMap s d.sg d.dir))
    (hs : s.host.dmaMapped = none) : t = returnCode 0 (dmaConfigured d (dmaMap s d.sg d.dir) s) := by
  rw [exec_dataCfgDma hd] at h
  rcases configureDma_eq_next rfl h with ⟨-, rfl⟩ | rfl
  · rw [returnCode_host, setCurrentData, State.setHost_host, freeBuffers_host, hs] at ht
    cases ht
  · rfl

/-- Settles O32: the configured state shows each clause of the first part, its hand-over the second, and a segment or
a length that the table cannot express is refused before any write. -/
theorem dataCfgDmaBuildsTheTable : Obligations.DataCfgDmaBuildsTheTable := by
  refine ⟨?_, fun s t d ⟨hdma, _⟩ hd h ht hs => ?_, fun s d ms hd hms hne hlen hbad => ?_⟩
  · intro s d ms _ hd hidle hms hne hlen hsegs hsize asks
    have hexpr : mappingExpressible s.cfg d ms = true :=
      (mappingExpressible_iff _ _ _).2 ⟨fun m hm => (slotExpressible_iff _ _).2 (hsegs m hm), hsize⟩
    refine ⟨dmaConfigured d ms s, ?_, fun k hk => ?_, fun k hk => ?_, rfl, rfl, ?_, ?_, ?_⟩
    · rw [exec_dataCfgDma hd, configureDma_idle hms (mappingFails_false hne hlen) hexpr hidle]
    · have hslot : (dmaConfigured d ms s).reg.slot k = slotOf s.cfg ms[k] :=
        (congrArg _ (Nat.zero_add k).symm).trans (entryAt_fillSlots s.cfg ms 0 s.reg.slots hk)
      obtain ⟨-, -, hcount, -⟩ := hsegs _ (List.getElem_mem hk)
      rw [hslot]
      refine ⟨rfl, ?_⟩
      rw [slotOf, BitVec.toNat_ofNat, Nat.mod_eq_of_lt (by omega)]
    · exact entryAt_fillSlots_other s.cfg ms s.reg.slots (.inr (by omega))
    · exact handOver_bus d ms s
    · exact handOver_bufMem d ms s
    · exact handOver_out d ms s
  · obtain rfl := exec_dataCfgDma_mapped hd h ht hs
    rw [returnCode_dmaMem, dmaConfigured_dmaMem]
    refine ⟨handOver_dmaMem_rd _ s, fun hwr => ?_⟩
    rw [handOver_dmaMem_wr _ s hwr]
    exact ⟨fun a ha => read_writeKeys_other hdma _ _ ha,
      fun hnodup hlen => map_read_writeKeys hdma hnodup (by rw [readKeys, List.length_map, hlen])⟩
  · rw [exec_dataCfgDma hd]
    refine configureDma_refused hms (mappingFails_false hne hlen) fun hexpr => ?_
    obtain ⟨hslots, hsize⟩ := (mappingExpressible_iff _ _ _).1 hexpr
    rcases hbad with hbad | ⟨m, hm, hbad⟩
    · exact hbad hsize
    · exact not_slotExpressible hbad (hslots m hm)

end Sys2Proof.Machine
end

section
/-! PROOFS. The statements of 44_pio_engine.md: one word each way, and the pump over words and segments. -/

namespace Sys2Proof.Machine

/-! ### The bytes of a word (20_memory.md R82) -/

/-- The bytes of a word in bus order, the lowest first: bit `i` of byte `k` is bit `8 * k + i` of the word. -/
theorem byteOfWord_append (b0 b1 b2 b3 : Byte) :
    byteOfWord (b3 ++ b2 ++ b1 ++ b0) 0 = b0 ∧ byteOfWord (b3 ++ b2 ++ b1 ++ b0) 1 = b1 ∧
    byteOfWord (b3 ++ b2 ++ b1 ++ b0) 2 = b2 ∧ byteOfWord (b3 ++ b2 ++ b1 ++ b0) 3 = b3 := by
  refine ⟨?_, ?_, ?_, ?_⟩ <;>
  · apply BitVec.eq_of_getLsbD_eq
    intro i hi
    simp only [byteOfWord, BitVec.getLsbD_extractLsb', BitVec.getLsbD_append]
    grind

/-! ### One word (R251, R252) -/

/-- The word operation that `PIO_XFER` runs for the direction of the transfer. -/
def pioWordInstr (dir : Dir) (buf : Word) (off : Nat) : Instr :=
  match dir with
  | .wr => .pioWrWord buf off
  | .rd => .pioRdWord buf off

/-- A word operation takes its deadline and polls for the first time. -/
theorem exec_pioWordInstr (dir : Dir) (buf : Word) (off : Nat) (s : State) :
    exec (pioWordInstr dir buf off) s = pollPioWord dir buf off (deadlineOf s) s := by cases dir <;> rfl

section word
variable {dir : Dir} {buf : Word} {off deadline : Nat} {s : State}

/-- A write pushes the word of the buffer into the register with room. -/
theorem movePioWord_wr (h : s.reg.txBufEmpty = true) :
    movePioWord .wr buf off s = .next ((s.setReg { s.reg with txBufEmpty := false }).setBus
      { s.bus with txFifo := s.bus.txFifo ++ [readBufWord s.bufMem buf off] }) := if_pos h

/-- A read pops the word that waits and stores it in the buffer. -/
theorem movePioWord_rd {w : Word} {rest : List Word} (hfull : s.reg.rxBufFull = true)
    (hfifo : s.bus.rxFifo = w :: rest) :
    movePioWord .rd buf off s = .next (((s.setReg { s.reg with rxBufFull := false }).setBus
      { s.bus with rxFifo := rest }).setBufMem (writeBufWord s.bufMem buf off w)) := by
  simp [movePioWord, readReg, popRx, hfull, hfifo]

/-- With its bit set, a word moves at the first poll. -/
theorem pollPioWord_ready (h : readBit (pioBit dir) s.reg = true) :
    pollPioWord dir buf off deadline s = movePioWord dir buf off (returnCode 0 s) := pollThen_ready h

/-- The write that finds room moves its word at once. -/
theorem pollPioWord_wr_ready (h : s.reg.txBufEmpty = true) :
    pollPioWord .wr buf off deadline s = .next (((returnCode 0 s).setReg { s.reg with txBufEmpty := false }).setBus
      { s.bus with txFifo := s.bus.txFifo ++ [readBufWord s.bufMem buf off] }) := by
  rw [pollPioWord_ready (dir := .wr) h, movePioWord_wr (by rwa [returnCode_reg]), returnCode_reg, returnCode_bus,
    returnCode_bufMem]

/-- The read that finds a word waiting moves it at once. -/
theorem pollPioWord_rd_ready {w : Word} {rest : List Word} (hfull : s.reg.rxBufFull = true)
    (hfifo : s.bus.rxFifo = w :: rest) :
    pollPioWord .rd buf off deadline s = .next ((((returnCode 0 s).setReg { s.reg with rxBufFull := false }).setBus
      { s.bus with rxFifo := rest }).setBufMem (writeBufWord s.bufMem buf off w)) := by
  rw [pollPioWord_ready (dir := .rd) hfull, movePioWord_rd (by rwa [returnCode_reg]) (by rwa [returnCode_bus]),
    returnCode_reg, returnCode_bus, returnCode_bufMem]

/-- In the error state, and without its bit, a word fails at the first poll. -/
theorem pollPioWord_error (h : readBit (pioBit dir) s.reg = false) (herr : s.reg.error = true) :
    pollPioWord dir buf off deadline s = .next (waitFailure s) := pollThen_failed h (.inl herr)

/-- A poll of a word operation never stops the machine: a word is written only where there is room for it. -/
theorem pollPioWord_next : ∃ t, pollPioWord dir buf off deadline s = .next t := by
  rcases pollThen_cases (pioBit dir) deadline (.pioWord dir buf off deadline) (movePioWord dir buf off) .next s with
    ⟨hready, hmove⟩ | ⟨-, -, hfail⟩ | ⟨-, -, -, hagain⟩
  · cases dir with
    | wr => exact ⟨_, pollPioWord_wr_ready hready⟩
    | rd => exact ⟨_, hmove⟩
  · exact ⟨_, hfail⟩
  · exact ⟨_, hagain⟩

end word

/-- Settles O34: the awaited bit is set, so the word moves at the first poll, and a stored word reads back as its four
bytes (`read_writeBufWord`). -/
theorem pioWordsMove : Obligations.PioWordsMove := by
  intro s buf off
  refine ⟨fun hempty => ?_, fun b0 b1 b2 b3 rest ⟨_, hwf⟩ hfull hfifo => ?_⟩
  · exact (exec_pioWordInstr .wr buf off s).trans (pollPioWord_wr_ready hempty)
  · obtain ⟨hb0, hb1, hb2, hb3⟩ := byteOfWord_append b0 b1 b2 b3
    obtain ⟨h0, h1, h2, h3⟩ := read_writeBufWord hwf buf off (b3 ++ b2 ++ b1 ++ b0)
    exact ⟨_, (exec_pioWordInstr .rd buf off s).trans (pollPioWord_rd_ready hfull hfifo), h0.trans hb0, h1.trans hb1,
      h2.trans hb2, h3.trans hb3, fun a => read_writeBufWord_other hwf buf off _⟩

/-! ### The pump (R250, R255) -/

/-- `PIO_XFER` pumps the scatter list of the outstanding Request from its first byte on. -/
theorem exec_pioXfer {s : State} {d : DataDesc} (hd : currentData s = some d) :
    exec .pioXfer s = pumpFrom d.dir 0 d.sg s := by
  change execPioXfer s = _
  rw [execPioXfer, hd]

section pump
variable {dir : Dir} {off : Nat} {g : Segment} {gs segs : List Segment} {s : State}

/-- Inside a segment the pump starts the word at `off`, with the rest of the transfer behind it. -/
theorem pumpFrom_inside (h : off < g.len) :
    pumpFrom dir off (g :: gs) s = exec (pioWordInstr dir g.buf off) (pushFrames [.pioNext dir off (g :: gs)] s) := by
  rw [exec_pioWordInstr, deadlineOf, pushFrames_now, pushFrames_cfg]
  exact if_pos h

/-- At the end of a segment, which for an empty one is its start, the pump goes on with the next. -/
theorem pumpFrom_past (h : g.len ≤ off) : pumpFrom dir off (g :: gs) s = pumpFrom dir 0 gs s :=
  if_neg (Nat.not_lt.2 h)

/-- In the error state the first word fails, and nothing moves (R253). -/
theorem pumpFrom_error (hbit : readBit (pioBit dir) s.reg = false) (herr : s.reg.error = true) :
    ∃ t, pumpFrom dir off segs s = .next t ∧ t.bufMem = s.bufMem ∧ t.bus = s.bus ∧ t.reg = s.reg := by
  induction segs generalizing off with
  | nil => exact ⟨s, rfl, rfl, rfl, rfl⟩
  | cons g gs ih =>
    by_cases h : off < g.len
    · rw [pumpFrom_inside h, exec_pioWordInstr,
        pollPioWord_error (by rwa [pushFrames_reg]) (by rwa [pushFrames_reg])]
      exact ⟨_, rfl, by simp [waitFailure], by simp [waitFailure], by simp [waitFailure]⟩
    · rw [pumpFrom_past (Nat.not_lt.1 h)]
      exact ih

/-! ### Behind a word (R250, R253) -/

/-- After a word that has moved, the pump goes on four bytes further. -/
theorem runFrame_pioNext_moved (h : (actorCtx s).ret = 0) :
    runFrame exec (.pioNext dir off segs) s = pumpFrom dir (off + 4) segs s := if_pos h

/-- After a word that has failed, the abort ends the transfer, or its segment. -/
theorem runFrame_pioNext_failed (h : (actorCtx s).ret ≠ 0) :
    runFrame exec (.pioNext dir off segs) s =
      if s.cfg.pioAbortScope = .transfer then .next (abortAt dir off segs s)
      else pumpFrom dir 0 segs.tail (abortAt dir off segs s) := by
  refine (if_neg h).trans ?_
  cases s.cfg.pioAbortScope <;> rfl

/-- An abort leaves the rest of the segment, and under the wider scope the segments behind it. -/
theorem abortedKeys_cons (scope : AbortScope) :
    abortedKeys scope off (g :: gs) = segmentKeys g off ++ (if scope = .segment then [] else bufKeys gs) := by
  cases scope with
  | segment => exact (List.append_nil _).symm
  | transfer => rfl

end pump

/-- Settles O35: each turn of the pump is a word inside the segment, the next segment, or an abort, and an aborted read
frees just the bytes left (`freeBytes_eq`). -/
theorem pioTransferPumps : Obligations.PioTransferPumps := by
  intro s d g gs off word start left
  have hstart (o : Nat) (u : State) (h : o < g.len) : pumpFrom d.dir o (g :: gs) u = start o u := pumpFrom_inside h
  have hleft : abortedKeys s.cfg.pioAbortScope off (g :: gs) = left := abortedKeys_cons _
  refine ⟨fun hd hsg => ?_, fun hd hsg hlen => ?_, fun hd hsg hlen => ?_, fun hd herr htx hrx => ?_,
    fun hret hoff => ?_, fun hret hoff => ?_, fun hret => ?_⟩
  · rw [exec_pioXfer hd, hsg, pumpFrom]
  · rw [exec_pioXfer hd, hsg, pumpFrom_past (by omega)]
  · rw [exec_pioXfer hd, hsg, ← hstart 0 s hlen, pumpFrom_inside hlen, exec_pioWordInstr]
    obtain ⟨t, ht⟩ := pollPioWord_next
    exact ⟨t, ht, ht⟩
  · rw [exec_pioXfer hd]
    refine pumpFrom_error ?_ herr
    cases d.dir with
    | wr => exact htx
    | rd => exact hrx
  · rw [runFrame_pioNext_moved hret, hstart _ s hoff]
  · rw [runFrame_pioNext_moved hret, pumpFrom_past hoff]
  · rw [runFrame_pioNext_failed hret]
    refine ⟨abortAt d.dir off (g :: gs) s, fun hscope => if_neg (by rw [hscope]; decide), fun hscope => if_pos hscope,
      fun hwr => by rw [hwr, abortAt_wr], fun hrd => ?_⟩
    obtain ⟨m, hfree, hbytes⟩ := freeBytes_eq left s
    refine ⟨m, by rw [hrd, abortAt_rd, hleft, hfree], fun ⟨_, hwf⟩ => ?_⟩
    obtain ⟨-, hother, hsame⟩ := hbytes hwf
    exact ⟨hother, hsame⟩

end Sys2Proof.Machine
end

section
/-! PROOFS. The statements of 45_transaction_controller.md: who gets the mutex, the trigger of each path, the claim of
`FINISH` with its unmapping, the stop command, and the return. -/

namespace Sys2Proof.Machine

/-! ### Well-formed Requests (R271, 10_state.md R42) -/

/-- A Command is fresh when each completion field holds its initial value. -/
theorem commandFresh_iff (c : Command) :
    commandFresh c = true ↔ c.error = .none ∧ c.retries = 0 ∧ c.resp0 = none ∧ c.resp1 = none ∧ c.resp2 = none ∧
      c.resp3 = none := by
  simp only [commandFresh, Bool.and_eq_true, beq_iff_eq, Option.isNone_iff_eq_none, and_assoc]

/-- The Data Descriptors of well-formed Requests: legal blocks, a scatter list as long as the transfer and, for PIO, of
whole words, and fresh completion fields. -/
theorem dataWellFormed_iff (c : Cfg) (path : PathMode) (d : DataDesc) :
    dataWellFormed c path d = true ↔ blocksLegal c d = true ∧ segmentsLength d.sg = d.size ∧
      (path = .dma ∨ ∀ g ∈ d.sg, g.len % 4 = 0) ∧ d.error = .none ∧ d.bytesXfered = 0 := by
  simp only [dataWellFormed, Bool.and_eq_true, Bool.or_eq_true, beq_iff_eq, List.all_eq_true, and_assoc]

/-- The conditions of R271 on a Request, one for each of its parts. -/
theorem requestWellFormed_iff (c : Cfg) (path : PathMode) (r : Request) :
    requestWellFormed c path r = true ↔ r.cmd.opcode.toNat ≤ 63 ∧ (r.cmd.rsp = .r136 → r.data = none) ∧
      (∀ x, r.stop = some x → r.data.isSome = true ∧ x.opcode.toNat ≤ 63 ∧ commandFresh x = true) ∧
      (∀ d, r.data = some d → dataWellFormed c path d = true) ∧ commandFresh r.cmd = true := by
  simp only [requestWellFormed, Bool.and_eq_true, Bool.or_eq_true, bne_iff_ne, decide_eq_true_iff, Option.all_eq_true,
    Option.isNone_iff_eq_none, and_assoc, imp_iff_not_or]

/-- `SUBMIT` asks for a Host whose clock and `TIMING` have been set, and for a well-formed Request. -/
theorem submittable_iff (s : State) (r : Request) :
    submittable s r = true ↔ s.host.attached = true ∧ s.host.clockSet = true ∧ s.host.timingSet = true ∧
      requestWellFormed s.cfg s.host.path r = true := by
  simp only [submittable, Bool.and_eq_true, and_assoc]

section wellFormed
variable {c : Cfg} {path : PathMode} {r : Request}

/-- Both Commands of a well-formed Request have a six-bit opcode and are fresh. -/
theorem command_of_wellFormed (hwf : requestWellFormed c path r = true) {x : Command}
    (hx : x = r.cmd ∨ r.stop = some x) : x.opcode.toNat ≤ 63 ∧ commandFresh x = true := by
  obtain ⟨hop, -, hstop, -, hfresh⟩ := (requestWellFormed_iff ..).1 hwf
  rcases hx with rfl | hx
  · exact ⟨hop, hfresh⟩
  · exact (hstop x hx).2

/-- A Command with an opcode above six bits, or with a completion field that has been written, makes a Request
ill-formed. -/
theorem not_wellFormed_of_command {x : Command} (hx : x = r.cmd ∨ r.stop = some x)
    (hbad : 63 < x.opcode.toNat ∨ x.error ≠ .none ∨ x.retries ≠ 0 ∨ x.resp0 ≠ none ∨ x.resp1 ≠ none ∨ x.resp2 ≠ none ∨
      x.resp3 ≠ none) : ¬ requestWellFormed c path r = true := by
  intro hwf
  obtain ⟨hop, hfresh⟩ := command_of_wellFormed hwf hx
  obtain ⟨herr, hretries, h0, h1, h2, h3⟩ := (commandFresh_iff x).1 hfresh
  rcases hbad with h | h | h | h | h | h | h
  exacts [Nat.not_lt.2 hop h, h herr, h hretries, h h0, h h1, h h2, h h3]

/-- A Data Descriptor that the registers, the scatter list or the PIO path cannot serve, or with a completion field that
has been written, makes a Request ill-formed. -/
theorem not_wellFormed_of_data {d : DataDesc} (hd : r.data = some d)
    (hbad : d.blksz = 0 ∨ 2 ^ c.blksizeW < d.blksz ∨ d.blocks = 0 ∨ 2 ^ c.blkcntW < d.blocks ∨
      segmentsLength d.sg ≠ d.blksz * d.blocks ∨ d.error ≠ .none ∨ d.bytesXfered ≠ 0 ∨
      (path = .pio ∧ ∃ g ∈ d.sg, g.len % 4 ≠ 0)) : ¬ requestWellFormed c path r = true := by
  intro hwf
  obtain ⟨-, -, -, hdata, -⟩ := (requestWellFormed_iff ..).1 hwf
  obtain ⟨hblocks, hlen, hwords, herr, hbytes⟩ := (dataWellFormed_iff ..).1 (hdata d hd)
  obtain ⟨hsz, hszW, hcnt, hcntW⟩ := (blocksLegal_iff ..).1 hblocks
  rcases hbad with h | h | h | h | h | h | h | ⟨hpio, g, hg, hodd⟩
  · exact Nat.ne_of_gt hsz h
  · exact Nat.not_lt.2 hszW h
  · exact Nat.ne_of_gt hcnt h
  · exact Nat.not_lt.2 hcntW h
  · exact h hlen
  · exact h herr
  · exact h hbytes
  · rcases hwords with hdma | hwords
    · rw [hpio] at hdma
      cases hdma
    · exact hodd (hwords g hg)

end wellFormed

/-! ### `SUBMIT` and the mutex (R271, R284) -/

section submit
variable {s : State} {r : Request}

theorem exec_submit (h : submittable s r = true) :
    exec (.submit r) s = whenUnlocked (.submit r) s (.next (acceptRequest r s)) := if_pos h

theorem exec_submit_refused (h : ¬ submittable s r = true) :
    exec (.submit r) s = .refused .illFormedRequest := if_neg h

/-- A held mutex blocks the operation that wants it (10_state.md R50). -/
theorem whenUnlocked_held {i : Instr} {o : Res} (h : s.host.lock = .held) :
    whenUnlocked i s o = .next (pushFrames [.blocked i] s) := by
  simp [whenUnlocked, h]

end submit

/-- Settles O36: the test of `SUBMIT` comes first, then the mutex, and each clause of the refusal contradicts one
condition of the test. -/
theorem submitTakesTheMutex : Obligations.SubmitTakesTheMutex := by
  refine fun s r => ⟨fun hatt hclock htiming hwf => ?_, fun hbad => exec_submit_refused fun hok => ?_⟩
  · have hok : submittable s r = true := (submittable_iff ..).2 ⟨hatt, hclock, htiming, hwf⟩
    exact ⟨fun hfree => (exec_submit hok).trans (whenUnlocked_free hfree),
      fun hheld => (exec_submit hok).trans (whenUnlocked_held hheld)⟩
  · obtain ⟨hatt, hclock, htiming, hwf⟩ := (submittable_iff ..).1 hok
    obtain ⟨-, -, hstop, -, -⟩ := (requestWellFormed_iff ..).1 hwf
    rcases hbad with h | h | h | hop | ⟨hrsp, hdata⟩ | ⟨hsome, hnone⟩ | ⟨x, hx, hbad⟩ | ⟨d, hd, hbad⟩
    · rw [h] at hatt
      cases hatt
    · rw [h] at hclock
      cases hclock
    · rw [h] at htiming
      cases htiming
    · exact not_wellFormed_of_command (.inl rfl) (.inl hop) hwf
    · rw [data_eq_none_of_r136 hwf hrsp] at hdata
      cases hdata
    · obtain ⟨x, hx⟩ := Option.isSome_iff_exists.1 hsome
      obtain ⟨hdata, -⟩ := hstop x hx
      rw [hnone] at hdata
      cases hdata
    · exact not_wellFormed_of_command hx hbad hwf
    · exact not_wellFormed_of_data hd hbad hwf

/-! ### Cancel requests (R286, entry 16) -/

section signal
variable {s : State} {tid : Nat}

/-- A `SUBMIT` blocked in its acquire is aborted. -/
theorem signalThread_blocked {r : Request} {rest : List Frame}
    (h : (getCtx s (.p tid)).stack = .blocked (.submit r) :: rest) :
    signalThread tid s =
      (setCtx s (.p tid) { getCtx s (.p tid) with stack := rest }).emit (.submitAborted tid) := by
  simp [signalThread, h, submittedRequest]

/-- The request of a thread that has nothing to do stays pending, once. -/
theorem signalThread_idle (h : (getCtx s (.p tid)).stack = []) :
    signalThread tid s = s.setCancels (if tid ∈ s.cancels then s.cancels else tid :: s.cancels) := by
  by_cases hpending : tid ∈ s.cancels
  · simp [signalThread, h, hpending, State.setCancels]
  · simp [signalThread, h, hpending]

/-- Inside any other operation a request has no effect. -/
theorem signalThread_inside (hne : (getCtx s (.p tid)).stack ≠ [])
    (hother : ∀ r rest, (getCtx s (.p tid)).stack ≠ .blocked (.submit r) :: rest) : signalThread tid s = s := by
  unfold signalThread
  split
  · next h => exact absurd h hne
  · next i rest h =>
    refine if_neg fun hsome => ?_
    obtain ⟨r, hr⟩ := Option.isSome_iff_exists.1 hsome
    rw [(submittedRequest_iff i r).1 hr] at h
    exact hother r rest h
  · rfl

/-- A pending request meets the next `SUBMIT` of a well-formed Request. -/
theorem startInstr_submit_cancelled {run : Instr → State → Res} {r : Request}
    (hstack : (getCtx s (.p tid)).stack = []) (hpending : tid ∈ s.cancels) (hok : submittable s r = true) :
    startInstr run (.p tid) (.submit r) s = submitCancelled run tid (.submit r) (s.setActor (.p tid)) := by
  obtain ⟨hatt, -, -, -⟩ := (submittable_iff ..).1 hok
  have hmay : agentMayRun (.p tid) (.submit r) = true := rfl
  have hidle : mustWait (.p tid) (.submit r) s = false := (mustWait_eq_false_iff ..).2 (.inl hstack)
  have hns : notStarted (.submit r) s.host.tc = false := rfl
  have harm : armNotDue (.submit r) s = false := rfl
  have hmeets : cancelMeets (.p tid) (.submit r) s = some tid := by
    simp [cancelMeets, submittedRequest, hpending, hok]
  simp [startInstr, hmay, hatt, hidle, hns, harm, hmeets]

/-- While the mutex is held the pending request wins. -/
theorem submitCancelled_held {run : Instr → State → Res} {i : Instr} (h : s.host.lock = .held) :
    submitCancelled run tid i s =
      .next (((s.setCancels (s.cancels.erase tid)).setDraws (s.draws + 1)).emit (.submitAborted tid)) := by
  simp [submitCancelled, cancelWins, h]

end signal

/-- Settles O37: the three stacks that a cancel request can find, and the `SUBMIT` that a pending one meets. -/
theorem cancelledSubmitTouchesNothing : Obligations.CancelledSubmitTouchesNothing := by
  refine fun s tid es => ⟨fun hs => ?_, fun f bytes rest r hs hf hstack hpending hatt hclock htiming hwf => ?_⟩
  · have hstep : step s = .next (signalThread tid (s.setSched es)) := step_cons hs
    rw [hstep, ← getCtx_setSched s es]
    exact ⟨fun r rest h => by rw [signalThread_blocked h], fun h => by rw [signalThread_idle h]; rfl,
      fun hne hother => by rw [signalThread_inside hne hother]⟩
  · intro t
    have hok : submittable (s.setSched es) r = true := (submittable_iff ..).2 ⟨hatt, hclock, htiming, hwf⟩
    have hstep : step s = submitCancelled exec tid (.submit r) ((s.setSched es).setActor (.p tid)) :=
      (step_run hs hf).trans
        (startInstr_submit_cancelled (by rwa [getCtx_setSched]) hpending hok)
    rw [hstep]
    refine ⟨fun hheld => submitCancelled_held hheld, fun _ => ?_⟩
    rcases submitCancelled_cases exec tid (.submit r) ((s.setSched es).setActor (.p tid)) with h | ⟨-, h⟩
    · exact .inl h
    · exact .inr (h.trans (runCall_eq (mayCall_of_blocked (.inl ⟨r, rfl⟩) t)))

/-! ### The trigger and the paths (R272 to R277, R279) -/

section paths
variable {s : State} {v : WaitSel}

/-- Clearing the completion enable writes that flag alone (R273, R282). -/
theorem clear_cmpEn (s : State) :
    writeFieldMasked .int Field.cmpEn 0#16 s = .next (s.setReg { s.reg with cmpEn := false }) :=
  writeFieldMasked_cmpEn false s

/-- A ready engine takes the trigger, and the machine passes to the waiting state in the same step. -/
theorem triggerInto_ready (hready : s.engineReady) (hmode : reservedMode s.reg.config = false) :
    triggerInto v s = .next ((triggered s).setHost { s.host with tc := waitState v }) := by
  obtain ⟨hidle, hsettled⟩ := hready
  have htrigger : trigger s = .next (triggered s) := trigger_eq_next.2 ⟨hidle, hsettled, hmode, rfl⟩
  rw [triggerInto, triggerWrite_eq, htrigger]
  rfl

theorem exec_trigger (htc : s.host.tc = .preparing) : exec (.trigger v) s = triggerInto v s := if_pos htc

theorem exec_trigger_refused (htc : s.host.tc ≠ .preparing) : exec (.trigger v) s = .refused .notPreparing := if_neg htc

/-- A path that runs on its own request triggers, and has its own operations next. -/
theorem runPath_ready {row : PathRow} {k : BitVec 7} {rest : List Frame} (hpath : pathReady row k s = true)
    (hready : s.engineReady) (hmode : reservedMode s.reg.config = false) :
    runPath row k v rest s = .next (pushFrames rest ((triggered s).setHost { s.host with tc := waitState v })) := by
  rw [runPath, if_pos hpath, triggerInto_ready hready hmode, andThen_next]

/-- The operands of a path: a prepared request with its key, whose mapping has not failed. -/
theorem pathReady_of_request {row : PathRow} {k : BitVec 7} {r : Request} (htc : s.host.tc = .preparing)
    (hmrq : s.host.mrq = some r) (hkey : dispatchKey s.cfg s.host.path s.host.useInt r = k) (hrow : reqRow k = some row)
    (hdata : ∀ d, r.data = some d → d.error ≠ .dmaMap) : pathReady row k s = true := by
  have hmapped : ((currentData s).all fun d => d.error != .dmaMap) = true := by
    rw [Option.all_eq_true]
    intro d hd
    rw [currentData, hmrq, Option.bind_some] at hd
    exact bne_iff_ne.2 (hdata d hd)
  simp [pathReady, currentKey, htc, hmrq, hkey, hrow, hmapped]

end paths

/-- Settles O38: each path is `runPath` on its own row, and for PIO behind the write that clears the completion enable. -/
theorem pathsTriggerAndWait : Obligations.PathsTriggerAndWait := by
  refine ⟨fun s r k hready htc hmrq hkey hmode hdata => ?_, fun s v => ⟨fun htc hready hmode => ?_,
    exec_trigger_refused⟩⟩
  · intro go
    have hrun (row : PathRow) (v : WaitSel) (rest : List Frame) (hrow : reqRow k = some row) :
        runPath row k v rest s = .next (pushFrames rest (go (waitState v) s)) :=
      runPath_ready (pathReady_of_request htc hmrq hkey hrow hdata) hready hmode
    refine ⟨hrun .r136 .poll _, fun hrow => ?_, hrun .dataDmaIrqCmd .interrupt _, hrun .dataDmaIrqThr .interrupt _,
      hrun .dataDmaPoll .poll _, hrun .nodataIrq .interrupt _, hrun .nodataPoll .poll _⟩
    change execSubmitDataPio k s = _
    rw [execSubmitDataPio, clear_cmpEn, andThen_next]
    exact runPath_ready (pathReady_of_request htc hmrq hkey hrow hdata) hready hmode
  · rw [exec_trigger htc, triggerInto_ready hready hmode]
    cases v <;> rfl

/-! ### Unmapping (R280, 20_memory.md R90, entry 14) -/

/-- As many bytes pass back as the mapping has. -/
theorem length_arrivedBytes (arrived draws j : Nat) (bs : List Byte) :
    (arrivedBytes arrived draws j bs).length = bs.length := by
  induction bs generalizing j with
  | nil => rfl
  | cons b bs ih => rw [arrivedBytes, List.length_cons, List.length_cons, ih]

/-- Of the bytes that pass back, those that have arrived are the engine's. -/
theorem getElem_arrivedBytes (arrived draws : Nat) {j n : Nat} {bs : List Byte} (hn : n < bs.length)
    (harrived : j + n < arrived) :
    (arrivedBytes arrived draws j bs)[n]'(by rwa [length_arrivedBytes]) = bs[n] := by
  induction bs generalizing j n with
  | nil => exact absurd hn (Nat.not_lt_zero n)
  | cons b bs ih =>
    cases n with
    | zero => exact if_pos harrived
    | succ n => exact ih (Nat.lt_of_succ_lt_succ hn) (by omega)

/-- A byte written among others at places of which no two are alike is read at its place. -/
theorem read_writeKeys_getElem {m : Memory} (h : m.wf = true) {ks : List Nat} (hnodup : ks.Nodup) {bs : List Byte}
    (hlen : ks.length = bs.length) {j : Nat} (hj : j < ks.length) :
    (writeKeys m ks bs).read ks[j] = bs[j]'(hlen ▸ hj) := by
  have hall := map_read_writeKeys h hnodup hlen
  rw [← List.getElem_map (writeKeys m ks bs).read (h := by rwa [List.length_map])]
  exact List.getElem_of_eq hall _

section unmap
variable (r : Request) (s : State)

/-- Unmapping changes the Host's mapping, the buffers, and the count of draws. -/
theorem unmapRequest_eq : unmapRequest r s =
    ((s.setHost { s.host with dmaMapped := none }).setBufMem (unmapRequest r s).bufMem).setDraws
      (unmapRequest r s).draws := by
  unfold unmapRequest
  cases s.host.dmaMapped with
  | none => rfl
  | some mapped =>
    cases r.data with
    | none => rfl
    | some d =>
      simp only [handBack]
      cases d.dir <;> rfl

@[simp] theorem unmapRequest_host : (unmapRequest r s).host = { s.host with dmaMapped := none } := by
  rw [unmapRequest_eq]; rfl
@[simp] theorem unmapRequest_reg : (unmapRequest r s).reg = s.reg := by rw [unmapRequest_eq]; rfl
@[simp] theorem unmapRequest_bus : (unmapRequest r s).bus = s.bus := by rw [unmapRequest_eq]; rfl
@[simp] theorem unmapRequest_dmaMem : (unmapRequest r s).dmaMem = s.dmaMem := by rw [unmapRequest_eq]; rfl
@[simp] theorem unmapRequest_out : (unmapRequest r s).out = s.out := by rw [unmapRequest_eq]; rfl

variable {r s}

/-- Without a mapping, and for a write, no byte passes back. -/
theorem unmapRequest_bufMem_kept (h : s.host.dmaMapped = none ∨ ∀ d, r.data = some d → d.dir = .wr) :
    (unmapRequest r s).bufMem = s.bufMem := by
  unfold unmapRequest
  cases hmapped : s.host.dmaMapped with
  | none => rfl
  | some mapped =>
    cases hdata : r.data with
    | none => rfl
    | some d =>
      have hwr : d.dir = .wr := by
        rcases h with h | h
        · rw [hmapped] at h
          cases h
        · exact h d hdata
      simp [handBack, hwr]

/-- For a read the bytes of the mapping pass back into the buffers, in bus order. -/
theorem unmapRequest_bufMem_rd {d : DataDesc} {ms : List Mapped} (hdata : r.data = some d)
    (hmapped : s.host.dmaMapped = some ms) (hrd : d.dir = .rd) :
    (unmapRequest r s).bufMem = writeKeys s.bufMem (bufKeys d.sg)
      (arrivedBytes s.bus.arrived s.draws 0 (readKeys s.dmaMem (mappedKeys ms))) := by
  simp [unmapRequest, hdata, hmapped, handBack, hrd]

/-- Every byte outside the buffers reads as before. -/
theorem read_unmapRequest_other (hwf : s.bufMem.wf = true) {d : DataDesc} {ms : List Mapped} (hdata : r.data = some d)
    (hmapped : s.host.dmaMapped = some ms) {a : Nat} (ha : a ∉ bufKeys d.sg) :
    (unmapRequest r s).bufMem.read a = s.bufMem.read a := by
  cases hdir : d.dir with
  | rd => rw [unmapRequest_bufMem_rd hdata hmapped hdir, read_writeKeys_other hwf _ _ ha]
  | wr =>
    have hwr : ∀ e, r.data = some e → e.dir = .wr := by
      intro e he
      rw [hdata] at he
      cases he
      exact hdir
    rw [unmapRequest_bufMem_kept (.inr hwr)]

/-- A byte that the engine has written is read in its buffer. -/
theorem read_unmapRequest_arrived (hwf : s.bufMem.wf = true) {d : DataDesc} {ms : List Mapped}
    (hdata : r.data = some d) (hmapped : s.host.dmaMapped = some ms) (hrd : d.dir = .rd)
    (hnodup : (bufKeys d.sg).Nodup) (hlen : (mappedKeys ms).length = (bufKeys d.sg).length) {j : Nat}
    (hj : j < (bufKeys d.sg).length) (hj' : j < (mappedKeys ms).length) (harrived : j < s.bus.arrived) :
    (unmapRequest r s).bufMem.read (bufKeys d.sg)[j] = s.dmaMem.read (mappedKeys ms)[j] := by
  have hread : (readKeys s.dmaMem (mappedKeys ms)).length = (mappedKeys ms).length := List.length_map _
  rw [unmapRequest_bufMem_rd hdata hmapped hrd,
    read_writeKeys_getElem hwf hnodup (by rw [length_arrivedBytes, hread, hlen]) hj,
    getElem_arrivedBytes _ _ (by rwa [hread]) (by rwa [Nat.zero_add])]
  exact List.getElem_map _

end unmap

/-! ### `FINISH` (R280, R281) -/

section finish
variable {s : State}

/-- The guard: with nothing outstanding, or a request that is being finished, `FINISH` does nothing. -/
theorem exec_finish_guarded (hfree : s.host.irqLock = .free) (h : s.host.mrq = none ∨ s.host.tc = .finishing) :
    exec .finish s = .next s := by
  change execFinish s = _
  rw [execFinish, whenIrqUnlocked_free hfree]
  cases hmrq : s.host.mrq with
  | none => rfl
  | some r =>
    rcases h with h | htc
    · rw [hmrq] at h
      cases h
    · exact if_pos htc

/-- The first `FINISH` claims the request. -/
theorem exec_finish_claims {r : Request} (hfree : s.host.irqLock = .free) (hmrq : s.host.mrq = some r)
    (htc : s.host.tc ≠ .finishing) : exec .finish s = .next (claimRequest r s) := by
  change execFinish s = _
  rw [execFinish, whenIrqUnlocked_free hfree, hmrq]
  exact if_neg htc

end finish

/-- Settles O40: a first `FINISH` is the claim, and the claim changes no more than unmapping does. -/
theorem finishClaimsOnceAndUnmaps : Obligations.FinishClaimsOnceAndUnmaps := by
  refine ⟨fun s => exec_finish_guarded, fun s r hfree hmrq htc ⟨_, hwf⟩ => ?_⟩
  intro decoder frames
  have hframes : finishFrames r = frames := by
    simp only [finishFrames, frames, decoder]
    cases r.cmd.rsp <;> rfl
  have hclaim := exec_finish_claims hfree hmrq htc
  rw [claimRequest, hframes] at hclaim
  let u := s.setHost { s.host with tc := .finishing }
  exact ⟨unmapRequest r u, hclaim, unmapRequest_host .., unmapRequest_reg .., unmapRequest_bus .., unmapRequest_dmaMem ..,
    unmapRequest_out .., unmapRequest_bufMem_kept (s := u), fun d ms hdata hmapped =>
      ⟨fun a ha => read_unmapRequest_other (s := u) hwf hdata hmapped ha, fun hrd hnodup hlen j hj hj' =>
        read_unmapRequest_arrived (s := u) hwf hdata hmapped hrd hnodup hlen hj hj'⟩⟩

/-! ### `STOP_ISSUE` (R282, 60_exceptions.md R454) -/

section stop
variable {s : State} {c : Command}

/-- The encoder's configuration of a command without data is not the reserved mode: `AUTO_RSP` is 0 (41_command_encoder.md
R189). -/
theorem reservedMode_without_data (config : Half) (rsp : RspShape) :
    reservedMode ((config &&& 0xFFF0#16) ||| encodeConfigBits rsp false) = false := by
  have hauto : cfgAutoRsp ((config &&& 0xFFF0#16) ||| encodeConfigBits rsp false) = false := by
    have hbits : (encodeConfigBits rsp false).getLsbD 3 = false := by cases rsp <;> rfl
    have hmask : (0xFFF0#16).getLsbD 3 = false := by decide
    rw [cfgAutoRsp, BitVec.getLsbD_or, BitVec.getLsbD_and, hmask, hbits, Bool.and_false, Bool.or_false]
  rw [reservedMode, hauto, Bool.false_and]

/-- The stop command is encoded, the completion enable cleared, and the engine triggered. -/
theorem exec_stopIssue {u : State} (hc : currentCmd s .stop = some c)
    (hencode : exec (.cmdEncode c.opcode c.arg c.rsp false) (s.setHost { s.host with waitFailed := false }) = .next u)
    (hready : u.engineReady) (hmode : reservedMode u.reg.config = false) :
    exec .stopIssue s =
      .next (pushFrames (stopFrames c) (triggered (u.setReg { u.reg with cmpEn := false }))) := by
  change encodeCommand c.opcode c.arg c.rsp false (s.setHost { s.host with waitFailed := false }) = .next u at hencode
  change execStopIssue s = _
  obtain ⟨hidle, hsettled⟩ := hready
  have htrigger : trigger (u.setReg { u.reg with cmpEn := false }) =
      .next (triggered (u.setReg { u.reg with cmpEn := false })) := trigger_eq_next.2 ⟨hidle, hsettled, hmode, rfl⟩
  simp only [execStopIssue, hc, hencode, clear_cmpEn, andThen_next, triggerWrite_eq, htrigger]

/-- A stop command that neither set the error state nor let a wait fail leaves everything as it is. -/
theorem stopCheck_clean (hc : currentCmd s .stop = some c) (herr : s.reg.error = false)
    (hwait : s.host.waitFailed = false) : stopCheck s = .next s := by
  simp [stopCheck, hc, herr, hwait]

/-- A stop command that failed gets its code, and the hardware a soft reset. -/
theorem stopCheck_failed (hc : currentCmd s .stop = some c) (hfail : s.reg.error = true ∨ s.host.waitFailed = true) :
    stopCheck s = resetAndSettle [] (setCurrentCmd .stop { c with error := classifyStop s.reg.errBits } s) := by
  simp [stopCheck, hc, hfail]

end stop

/-- Settles O42: the encoder leaves a mode that can be triggered, and the check is clean or failed. -/
theorem stopIsSentAndChecked : Obligations.StopIsSentAndChecked := by
  refine ⟨fun s c hc hop hready => ?_, fun s r c hmrq hstop => ?_⟩
  · have hencode := exec_cmdEncode_idle (s := s.setHost { s.host with waitFailed := false }) (arg := c.arg)
      (rsp := c.rsp) (hasData := false) hop hready.1
    refine ⟨_, hencode, (exec_stopIssue hc hencode hready (reservedMode_without_data ..)).trans ?_⟩
    rw [stopFrames]
    cases c.rsp <;> rfl
  · intro code
    have hc : currentCmd s .stop = some c := by rw [currentCmd, hmrq, Option.bind_some, selectCmd, hstop]
    refine ⟨stopCheck_clean hc, fun hfail => ?_⟩
    change stopCheck s = _
    rw [stopCheck_failed hc hfail, resetAndSettle_eq, setCurrentCmd, hmrq]
    rfl

/-! ### The return (R272, R280, R283, 60_exceptions.md R463) -/

/-- With a request outstanding the tail releases the Host and notifies. -/
theorem finishRequest_some {s : State} {r : Request} (hmrq : s.host.mrq = some r) :
    finishRequest s = pushFrames [.call (.notify r)] (s.setHost (releasedHost s.host)) := by
  simp only [finishRequest, hmrq]

/-- Settles O41: both tails are the one return, and `FINISH` clears its own flag before it. -/
theorem tailReleasesAndNotifies : Obligations.TailReleasesAndNotifies := by
  refine fun s r => ⟨fun hmrq => ⟨?_, ?_⟩, rfl⟩
  · exact congrArg Host.Outcome.next (finishRequest_some hmrq)
  · exact congrArg Host.Outcome.next (finishRequest_some (s := s.setHost { s.host with dmaIntReq := false }) hmrq)

end Sys2Proof.Machine
end

section
/-! PROOFS. The statement of 46_bounded_waits.md: the poll iteration of each wait, at its entry and on each turn, and the
bit that it tests. -/

namespace Sys2Proof.Machine

/-- The wait for a bit, as the operation that names it and as one of the four uses (46_bounded_waits.md R310 to R314). -/
def WaitsFor (i : Instr) (b : StatusBit) : Prop :=
  i = .waitUntil b ∨ (i = .waitFinish ∧ b = .finished) ∨ (i = .waitRspFull ∧ b = .rspBufFull) ∨
    (i = .waitTxEmpty ∧ b = .txBufEmpty) ∨ (i = .waitRxFull ∧ b = .rxBufFull)

/-- Each of the four uses is `WAIT_UNTIL` of its bit, and its deadline is taken at its entry (R317). -/
theorem exec_of_waitsFor {i : Instr} {b : StatusBit} (h : WaitsFor i b) (s : State) :
    exec i s = waitBit b (deadlineOf s) s := by
  rcases h with rfl | ⟨rfl, rfl⟩ | ⟨rfl, rfl⟩ | ⟨rfl, rfl⟩ | ⟨rfl, rfl⟩
  all_goals rfl

/-- A wait without a timeout has its deadline at once. -/
theorem deadlineOf_le_now {s : State} (h : s.cfg.waitTimeout = 0) : deadlineOf s ≤ s.now := by
  rw [deadlineOf, h, Nat.add_zero]

/-- Any other wait has its deadline ahead. -/
theorem now_lt_deadlineOf {s : State} (h : 0 < s.cfg.waitTimeout) : s.now < deadlineOf s :=
  Nat.lt_add_of_pos_right h

/-- The word that shows an awaited bit. -/
def awaitedWord (b : StatusBit) (r : RegBlock) : Word :=
  if bitRegister b = .state then stateView r else statusView r

/-- A read of the register of an awaited bit returns that word. -/
theorem exec_regRd_bitRegister (b : StatusBit) (s : State) :
    exec (.regRd (.plain (bitRegister b))) s = .next (returnWord (awaitedWord b s.reg) s) := by
  have hmapped : regMapped s (.plain (bitRegister b)) = true := by cases b <;> rfl
  have hread : readReg (.plain (bitRegister b)) s = (awaitedWord b s.reg, s) := by cases b <;> rfl
  rw [exec_read (.inr rfl), regRead_mapped hmapped, hread]

/-- The awaited bit stands at its place in that word (30_encoding.md R129, R130). -/
theorem awaitedWord_getLsbD (b : StatusBit) (r : RegBlock) :
    (awaitedWord b r).getLsbD (bitPosition b) = readBit b r := by
  cases b with
  | finished | error =>
    refine (stateView_getLsbD r _).trans ?_
    simp [bitPosition, readBit]
  | rspTimeout | rspCrc7Err | stbTimeout | rdataCrc16Err | cardCrcTimeout | crcTokenErr | rspBufFull | txBufEmpty
  | rxBufFull =>
    refine (statusView_getLsbD r _).trans ?_
    simp [bitPosition, readBit]

/-- Settles O43: a wait at its entry and a wait that goes on are the same poll iteration, with the deadline of the
entry. -/
theorem waitsTestBitErrorDeadline : Obligations.WaitsTestBitErrorDeadline := by
  refine ⟨fun s i b hwait => ?_, fun s b => ⟨_, exec_regRd_bitRegister b s, awaitedWord_getLsbD b s.reg⟩⟩
  rw [exec_of_waitsFor hwait]
  intro deadline failed
  refine ⟨pollThen_ready, fun hbit herr => pollThen_failed hbit (.inl herr),
    fun hbit _ hzero => pollThen_failed hbit (.inr (deadlineOf_le_now hzero)),
    fun hbit herr hpos => pollThen_again hbit herr (now_lt_deadlineOf hpos), fun dl => ?_⟩
  exact ⟨pollThen_ready, pollThen_failed, pollThen_again⟩

end Sys2Proof.Machine
end

section
/-! PROOFS. The statements of 47_error_classifier_tuner.md: the table of the classifier, what a clean and a failed
transaction record, the soft reset, and the five delays in the Tuning State and in `TIMING`. -/

namespace Sys2Proof.Machine

/-! ### The table (47_error_classifier_tuner.md R338, R339) -/

/-- Settles O44: down the arms in the order of the table, each behind the failure of the arms before it. -/
theorem classifierFollowsTheTable : Obligations.ClassifierFollowsTheTable := by
  refine ⟨rfl, fun c hasData u token => ?_⟩
  rw [classifyStatus]
  generalize u.getLsbD 0 = rspTimeout, u.getLsbD 1 = rspCrc7, u.getLsbD 2 = stbTimeout, u.getLsbD 3 = rdataCrc16,
    u.getLsbD 4 = cardCrcTimeout, u.getLsbD 5 = crcToken
  cases rspTimeout with
  | true => rfl
  | false =>
  cases rspCrc7 with
  | true => rfl
  | false =>
  cases hasData with
  | false => rfl
  | true =>
  cases stbTimeout with
  | true => rfl
  | false =>
  cases rdataCrc16 with
  | true => rfl
  | false =>
  cases cardCrcTimeout with
  | true => rfl
  | false =>
  cases crcToken with
  | true => simp
  | false => rfl

/-- An error state without a code bumps no delay (R347). -/
theorem classifyStatus_unclassified {c : Cfg} {hasData : Bool} {u : BitVec 6} {token : BitVec 3}
    {x : Option DelayName} (h : classifyStatus c hasData u token = (.none, x)) : x = none := by
  unfold classifyStatus at h
  split_ifs at h <;> cases h
  rfl

/-! ### A clean transaction (R331) -/

/-- What the classifier does on the outstanding Request. -/
theorem exec_checkError {s : State} {r : Request} (hmrq : s.host.mrq = some r) : exec .checkError s = classify r s := by
  change execCheckError s = _
  rw [execCheckError, hmrq]

/-- The waits whose failure counts as a timeout (R330, R348). -/
theorem countsAsTimeout_iff (c : Cfg) (waitFailed : Bool) (rsp : RspShape) :
    countsAsTimeout c waitFailed rsp = true ↔
      waitFailed = true ∧ (rsp = .r136 ∨ c.timeoutNoErrbit = .waitTimeout) := by
  simp only [countsAsTimeout, Bool.and_eq_true, Bool.or_eq_true, beq_iff_eq]

/-- Settles O45: with a clear error state and no wait that counts, the classifier takes its last branch. -/
theorem cleanTransactionSucceeds : Obligations.CleanTransactionSucceeds := by
  intro s r hmrq herr hclean
  have hno : ¬ countsAsTimeout s.cfg s.host.waitFailed r.cmd.rsp = true := by
    rw [countsAsTimeout_iff]
    rintro ⟨hfailed, hcounts⟩
    rcases hclean with hwait | ⟨hrsp, hpolicy⟩
    · simp [hwait] at hfailed
    · simp [hrsp, hpolicy] at hcounts
  rw [exec_checkError hmrq, classify, if_neg (by simp [herr]), if_neg hno, succeedTransaction, hmrq]
  rfl

/-! ### A failed transaction (R330, R340 to R346) -/

section failed
variable {s : State} {r : Request} {e : ErrorCode} {x : Option DelayName}

/-- The failure that the classifier finds: an error state with its arm, or a wait that counts (R330, R348). -/
def FailsWith (s : State) (r : Request) (e : ErrorCode) (x : Option DelayName) : Prop :=
  (s.reg.error = true ∧ classifyStatus s.cfg r.data.isSome s.reg.errBits s.reg.crcToken = (e, x)) ∨
    (s.reg.error = false ∧ s.host.waitFailed = true ∧
      (r.cmd.rsp = .r136 ∨ s.cfg.timeoutNoErrbit = .waitTimeout) ∧ e = .waitTimeout ∧ x = none)

theorem exec_checkError_failed (hmrq : s.host.mrq = some r) (hfail : FailsWith s r e x) :
    exec .checkError s = failTransaction e x s := by
  rw [exec_checkError hmrq, classify]
  rcases hfail with ⟨herr, harm⟩ | ⟨herr, hwait, hcounts, rfl, rfl⟩
  · rw [if_pos herr, harm]
  · rw [if_neg (by simp [herr]), if_pos ((countsAsTimeout_iff ..).2 ⟨hwait, hcounts⟩)]

/-- A failure without a code has no delay to bump. -/
theorem FailsWith.unclassified (hfail : FailsWith s r .none x) : x = none := by
  rcases hfail with ⟨-, harm⟩ | ⟨-, -, -, -, hx⟩
  · exact classifyStatus_unclassified harm
  · exact hx

/-- A failure writes the Host alone before the soft reset. -/
theorem recordFailure_bumpOpt_frame (e : ErrorCode) (tuning : Bool) (x : Option DelayName) (s : State) :
    ∃ h, recordFailure e tuning (bumpOpt x s) = s.setHost h := by
  have hbump : ∃ h, bumpOpt x s = s.setHost h := by cases x <;> exact ⟨_, rfl⟩
  obtain ⟨h, hh⟩ := hbump
  rw [hh]
  cases e <;> cases tuning <;> exact ⟨_, rfl⟩

/-- A failed transaction answers with the soft reset of what it recorded, and has the delay, the write-back in tuning
mode, and the last line next (R342 to R345). -/
theorem failTransaction_eq (e : ErrorCode) (x : Option DelayName) (s : State) :
    failTransaction e x s =
      .next (pushFrames (.settle (s.now + s.cfg.settleDelay) :: afterReset e (s.host.tune.needTuning != .none))
        (softReset (recordFailure e (s.host.tune.needTuning != .none) (bumpOpt x s)))) := by
  obtain ⟨h, hh⟩ := recordFailure_bumpOpt_frame e (s.host.tune.needTuning != .none) x s
  rw [failTransaction, resetAndSettle_eq, hh]
  rfl

/-- What a failure with a code records: the code, the retry count outside tuning mode, and the bumped delay (R340,
R341, R346). -/
theorem recordFailure_classified (hmrq : s.host.mrq = some r) (he : e ≠ .none) (tuning : Bool) :
    recordFailure e tuning (bumpOpt x s) = s.setHost { s.host with
      mrq := some { r with
        cmd := { r.cmd with error := e, retries := if tuning then r.cmd.retries else retryCount s.cfg s.reg.clkDiv }
        data := r.data.map fun d => { d with error := e, bytesXfered := 0 } }
      tune := match x with
        | some x => bumpTuning s.cfg s.host.tune x
        | none => s.host.tune } := by
  have hrecord : recordFailure e tuning (bumpOpt x s) = setRetries tuning (raiseError e (bumpOpt x s)) := by
    cases e with
    | none => exact absurd rfl he
    | _ => rfl
  rw [hrecord]
  cases x <;> cases tuning <;> simp [setRetries, raiseError, bumpOpt, bump, hmrq, raisedRequest, retriedRequest]

end failed

/-- Settles O46: both kinds of failure run the same `failTransaction`; what it records depends on the code alone. -/
theorem failedTransactionIsClassified : Obligations.FailedTransactionIsClassified := by
  intro s r e x hmrq hfail tuning after
  have hafter : after = .settle (s.now + s.cfg.settleDelay) :: afterReset e (s.host.tune.needTuning != .none) := by
    simp only [after, tuning, afterReset, bne_iff_ne, List.append_assoc, List.singleton_append]
  have hexec := (exec_checkError_failed hmrq hfail).trans (failTransaction_eq e x s)
  rw [← hafter] at hexec
  refine ⟨fun he => ?_, fun he => ?_, fun u => rfl⟩
  · rw [hexec, recordFailure_classified hmrq he]
    simp only [bne_iff_ne]
    rfl
  · subst he
    obtain rfl := FailsWith.unclassified hfail
    exact hexec

/-! ### The soft reset (R342, R343, 49_host_and_bus_interfaces.md R431) -/

/-- Settles O48: both operations are the one soft reset, and a turn inside the settling delay only stands it again. -/
theorem softResetClearsAndSettles : Obligations.SoftResetClearsAndSettles := by
  refine ⟨fun s => ⟨⟨softReset s, rfl, resetAndSettle_eq [] s⟩, fun n => ⟨fun hover => ?_, fun hearly => ?_⟩⟩,
    fun s => ⟨Config.freeToken s.draws, rfl⟩⟩
  · exact if_pos hover
  · exact if_neg (Nat.not_le.2 hearly)

/-! ### Bumps (R349) -/

/-- The five delays by their names. -/
def Tuning.delay (t : Tuning) : DelayName → BitVec 3
  | .rdCrc => t.rdCrc
  | .rdDat => t.rdDat
  | .rdRsp => t.rdRsp
  | .wrCmd => t.wrCmd
  | .wrDat => t.wrDat

theorem delay_bumpTuning_same (c : Cfg) (t : Tuning) (x : DelayName) :
    (bumpTuning c t x).delay x = bumpDelay c (t.delay x) := by cases x <;> rfl

theorem delay_bumpTuning_other (c : Cfg) (t : Tuning) {x y : DelayName} (h : y ≠ x) :
    (bumpTuning c t x).delay y = t.delay y := by
  revert h
  cases x <;> cases y <;> simp [bumpTuning, Tuning.delay]

theorem needTuning_bumpTuning (c : Cfg) (t : Tuning) (x : DelayName) :
    (bumpTuning c t x).needTuning = t.needTuning := by cases x <;> rfl

/-- The legal widths of a delay (00_scope.md R7). -/
theorem dlyW_le_of_legal {c : Cfg} (h : c.legal = true) : c.dlyW ≤ 3 := by
  simp only [Cfg.legal, Bool.and_eq_true, decide_eq_true_iff] at h
  tauto

/-- A bump counts modulo the width of a delay. -/
theorem bumpDelay_toNat {c : Cfg} (hw : c.dlyW ≤ 3) (d : BitVec 3) :
    (bumpDelay c d).toNat = (d.toNat + 1) % 2 ^ c.dlyW := by
  have hdvd : 2 ^ c.dlyW ∣ 8 := Nat.pow_dvd_pow 2 hw
  have hpow : 2 ^ c.dlyW ≤ 8 := Nat.le_of_dvd (by decide) hdvd
  have hmask : (delayMask c).toNat = 2 ^ c.dlyW - 1 := by
    rw [delayMask, Nat.min_eq_left hw, BitVec.toNat_setWidth, lowMask_toNat (by omega), Nat.mod_eq_of_lt (by omega)]
  calc (bumpDelay c d).toNat
    _ = (d.toNat + 1) % 8 % 2 ^ c.dlyW := by
        rw [bumpDelay, BitVec.toNat_and, hmask, Nat.and_two_pow_sub_one_eq_mod, BitVec.toNat_add]
        rfl
    _ = (d.toNat + 1) % 2 ^ c.dlyW := Nat.mod_mod_of_dvd _ hdvd

/-- Settles O47: the bumped Tuning State, delay by delay. -/
theorem delayBumpWraps : Obligations.DelayBumpWraps := by
  intro s x hlegal value
  have hvalue : ∀ t y, value t y = (t.delay y).toNat := fun t y => by cases y <;> rfl
  simp only [hvalue]
  refine ⟨bumpTuning s.cfg s.host.tune x, rfl, ?_, needTuning_bumpTuning .., fun y hy => ?_⟩
  · rw [delay_bumpTuning_same, bumpDelay_toNat (dlyW_le_of_legal hlegal)]
  · rw [delay_bumpTuning_other _ _ hy]

/-! ### The lanes of `TIMING` (R344, 30_encoding.md R131) -/

section lanes
variable (rdCrc rdDat rdRsp wrCmd wrDat : BitVec 3)

/-- A bit of the `TIMING` value is a bit of the lane it stands in; bit 15 stands in none. -/
theorem timingValue_bit {n : Nat} (hn : n < 16) :
    (timingValue rdCrc rdDat rdRsp wrCmd wrDat).getLsbD n =
      if n < 3 then rdCrc.getLsbD n else if n < 6 then rdDat.getLsbD (n - 3) else if n < 9 then rdRsp.getLsbD (n - 6)
      else if n < 12 then wrCmd.getLsbD (n - 9) else if n < 15 then wrDat.getLsbD (n - 12) else false := by
  interval_cases n <;> simp [timingValue]

/-- The lanes of the `TIMING` value, and bit 15. -/
theorem lanes_timingValue :
    let v := timingValue rdCrc rdDat rdRsp wrCmd wrDat
    v.extractLsb' 0 3 = rdCrc ∧ v.extractLsb' 3 3 = rdDat ∧ v.extractLsb' 6 3 = rdRsp ∧ v.extractLsb' 9 3 = wrCmd ∧
      v.extractLsb' 12 3 = wrDat ∧ v.getLsbD 15 = false := by
  intro v
  have hbit : ∀ n < 16, v.getLsbD n = _ := fun n => timingValue_bit rdCrc rdDat rdRsp wrCmd wrDat
  refine ⟨?_, ?_, ?_, ?_, ?_, hbit 15 (by decide)⟩ <;>
  · apply BitVec.eq_of_getLsbD_eq
    intro i hi
    rw [BitVec.getLsbD_extractLsb', hbit _ (by omega)]
    grind

/-- No lane reaches bit 15, the one bit outside the mask of the write. -/
theorem timingValue_and_0x7FFF :
    timingValue rdCrc rdDat rdRsp wrCmd wrDat &&& 0x7FFF#16 = timingValue rdCrc rdDat rdRsp wrCmd wrDat := by
  have hmask : ∀ n < 16, (0x7FFF#16).getLsbD n = decide (n < 15) := by decide
  apply BitVec.eq_of_getLsbD_eq
  intro n hn
  rw [BitVec.getLsbD_and, hmask n hn]
  by_cases h15 : n < 15
  · simp [h15]
  · obtain rfl : n = 15 := by omega
    simp [timingValue]

/-- Bits that a mask takes out of every lane are taken out lane by lane. -/
theorem timingValue_and_not (lane : BitVec 3) :
    timingValue rdCrc rdDat rdRsp wrCmd wrDat &&& ~~~(timingValue lane lane lane lane lane) =
      timingValue (rdCrc &&& ~~~lane) (rdDat &&& ~~~lane) (rdRsp &&& ~~~lane) (wrCmd &&& ~~~lane)
        (wrDat &&& ~~~lane) := by
  apply BitVec.eq_of_getLsbD_eq
  intro n hn
  simp only [BitVec.getLsbD_and, BitVec.getLsbD_not, timingValue_bit _ _ _ _ _ hn]
  grind

end lanes

theorem tuningValue_and_0x7FFF (t : Tuning) : tuningValue t &&& 0x7FFF#16 = tuningValue t :=
  timingValue_and_0x7FFF ..

/-- Delays that keep to their width fill writable bits only (10_state.md R45). -/
theorem tuningValue_reserved {s : State} (h : s.delaysFit) :
    tuningValue s.host.tune &&& ~~~(timingWritable s.cfg) = 0#16 := by
  obtain ⟨hrdCrc, hrdDat, hrdRsp, hwrCmd, hwrDat⟩ := h
  change timingValue .. &&& ~~~(timingValue (delayMask s.cfg) (delayMask s.cfg) (delayMask s.cfg) (delayMask s.cfg)
    (delayMask s.cfg)) = 0#16
  rw [timingValue_and_not, hrdCrc, hrdDat, hrdRsp, hwrCmd, hwrDat]
  rfl

/-- Where neither word has a reserved bit and the mask selects every writable one, the merge is the new value (R164). -/
theorem mergeHalf_whole {old mask value writable : Half} (hold : old &&& ~~~writable = 0#16)
    (hvalue : value &&& ~~~writable = 0#16) (hmask : writable &&& mask = writable) :
    mergeHalf old mask value writable = value := by
  have hnew : value &&& writable = value := by
    apply BitVec.eq_of_getLsbD_eq
    intro n hn
    have := congrArg (fun b : Half => b.getLsbD n) hvalue
    simp only [BitVec.getLsbD_and, BitVec.getLsbD_not, hn] at this ⊢
    grind
  rw [mergeHalf, BitVec.and_comm mask, hmask, hold, hnew, BitVec.zero_or]

/-- The write of all five lanes, while the engine is idle: one merge (R344, 49_host_and_bus_interfaces.md R402). -/
theorem regWriteMasked_timing {s : State} (hidle : s.bus.phase = .idle) {v : Half} (hv : v &&& 0x7FFF#16 = v) :
    regWriteMasked .timing (mw 0x7FFF#16 v) s =
      .next (s.setReg { s.reg with timing := mergeHalf s.reg.timing 0x7FFF#16 v (timingWritable s.cfg) }) := by
  rw [regWriteMasked, whenIdle_idle hidle, writtenTiming, maskHalf_mw, valueHalf_mw, hv]

/-- Settles O49: under the two invariants the merge is the value of the Tuning State, whose lanes are the delays. -/
theorem timingWritebackWritesFiveLanes : Obligations.TimingWritebackWritesFiveLanes := by
  rintro s hidle hdelays ⟨-, htiming, -⟩
  refine ⟨tuningValue s.host.tune, ?_, lanes_timingValue ..⟩
  change regWriteMasked .timing (mw 0x7FFF#16 (tuningValue s.host.tune)) s = _
  rw [regWriteMasked_timing hidle (tuningValue_and_0x7FFF _),
    mergeHalf_whole htiming (tuningValue_reserved hdelays) (timingValue_and_0x7FFF ..)]

end Sys2Proof.Machine
end

section
/-! PROOFS. The statements of 48_interrupt_deferred.md: interrupt entry, the two arms, and the deferred unit. -/

namespace Sys2Proof.Machine

/-! ### Interrupt entry (48_interrupt_deferred.md R371, 60_exceptions.md R458, R462) -/

/-- The arms that the word of `INT` selects are those of the sources that are enabled and pending. -/
theorem irqArms_intView (r : RegBlock) :
    irqArms (intView r) = (if r.cmpEn && r.cmpPend then [.call .irqCmdDone] else []) ++
      (if r.cardEn && r.cardPend then [.call .irqCard] else []) := by
  simp only [irqArms, intView_getLsbD]
  simp

/-- The handler reads `INT` and has its arms next. -/
theorem enterInterrupt_idle {s : State} (h : s.i.stack = []) :
    enterInterrupt s = pushFrames (irqArms (intView s.reg)) (returnWord (intView s.reg) s) := by
  rw [enterInterrupt, h]

/-- A handler that runs is not entered again (R458). -/
theorem enterInterrupt_running {s : State} (h : s.i.stack ≠ []) : enterInterrupt s = s := by
  rw [enterInterrupt]
  cases hstack : s.i.stack with
  | nil => exact absurd hstack h
  | cons f fs => rfl

/-- With the handler bound, the interrupt is entered. -/
theorem exec_irqEntry {s : State} (h : s.plat.irqBound = true) : exec .irqEntry s = .next (enterInterrupt s) := by
  change Host.Outcome.next _ = _
  rw [if_pos h]

/-- Settles O50: the handler's stack decides whether it is entered. -/
theorem interruptEntrySelectsTheArms : Obligations.InterruptEntrySelectsTheArms := by
  intro s hbound
  rw [exec_irqEntry hbound]
  refine ⟨fun hidle => ⟨intView s.reg, ?_, ?_⟩, fun hruns => ?_⟩
  · exact (exec_read (.inl rfl) s).trans (regRead_mapped rfl)
  · rw [enterInterrupt_idle hidle, irqArms_intView]
  · rw [enterInterrupt_running hruns]

/-! ### The completion arm (R372, R373, R377) -/

section completion
variable {s : State} {r : Request}

/-- The one write of the completion arm disables its source and clears its pending bit (R372). -/
theorem exec_irqCmdDone (hfree : s.host.irqLock = .free) :
    exec .irqCmdDone s =
      .next (completionAction (s.setReg { s.reg with cmpEn := false, cmpPend := false })) :=
  whenIrqUnlocked_free hfree

/-- A completion that no Request waits for does nothing more (R377). -/
theorem completionAction_spurious (h : s.host.mrq = none ∨ s.host.tc ≠ .waitingInterrupt) : completionAction s = s := by
  unfold completionAction
  cases hmrq : s.host.mrq with
  | none => rfl
  | some r =>
    rcases h with h | h
    · simp [hmrq] at h
    · simp [h]

/-- A Request with a stop command is left to the deferred unit (R373). -/
theorem completionAction_stop (hmrq : s.host.mrq = some r) (htc : s.host.tc = .waitingInterrupt)
    (hstop : r.stop.isSome = true) :
    completionAction s = s.setHost { s.host with cmpTaken := true, deferred := true } := by
  simp [completionAction, hmrq, htc, hstop]

/-- A Request without one is finished directly (R373). -/
theorem completionAction_direct (hmrq : s.host.mrq = some r) (htc : s.host.tc = .waitingInterrupt)
    (hstop : r.stop = none) :
    completionAction s = pushFrames [.call .finish] (s.setHost { s.host with cmpTaken := true }) := by
  simp [completionAction, hmrq, htc, hstop]

end completion

/-! ### The deferred unit (R374) -/

section deferred
variable {s : State}

theorem exec_deferredFinish_full (h : s.host.deferred = true) :
    exec .deferredFinish s = .next (pushFrames [.call .finish] (s.setHost { s.host with deferred := false })) := by
  change Host.Outcome.next _ = _
  rw [if_pos h]

theorem exec_deferredFinish_empty (h : s.host.deferred = false) : exec .deferredFinish s = .next s := by
  change Host.Outcome.next _ = _
  rw [if_neg (by simp [h])]

end deferred

/-- Settles O51: the completion arm by what it decides, then the card arm's one write, then the deferred slot. -/
theorem interruptArmsAndDeferredUnit : Obligations.InterruptArmsAndDeferredUnit := by
  refine ⟨fun s hfree => ?_, fun s => ⟨rfl, exec_deferredFinish_full, exec_deferredFinish_empty⟩⟩
  intro t
  rw [exec_irqCmdDone hfree]
  refine ⟨fun h => congrArg _ (completionAction_spurious h), fun r hmrq htc => ⟨fun hstop => ?_, fun hstop => ?_⟩⟩
  · exact congrArg _ (completionAction_stop hmrq htc hstop)
  · exact congrArg _ (completionAction_direct hmrq htc hstop)

end Sys2Proof.Machine
end

section
/-! PROOFS. The statements of 49_host_and_bus_interfaces.md about the upstream entry points. -/

namespace Sys2Proof.Machine

/-! ### The configuration entry points (R400 to R404) -/

section idle
variable {s : State}

/-- The masked write of the divider replaces the whole field (R401). -/
theorem writeFieldMasked_clkDiv (hidle : s.bus.phase = .idle) (div : BitVec 12) :
    writeFieldMasked .clkcfg Field.clkDiv (div.setWidth 16) s = .next (s.setReg { s.reg with clkDiv := div }) := by
  have hmask : Field.clkDiv.mask = clkcfgWritable := by decide
  have hmerge : (mergeHalf (s.reg.clkDiv.setWidth 16) clkcfgWritable (div.setWidth 16 &&& clkcfgWritable)
      clkcfgWritable).setWidth 12 = div := by
    apply BitVec.eq_of_getLsbD_eq
    intro n hn
    rw [BitVec.getLsbD_setWidth, mergeHalf_selected _ _ _ _ _ (by simp [clkcfgWritable_getLsbD hn]),
      BitVec.getLsbD_and, clkcfgWritable_getLsbD hn, BitVec.getLsbD_setWidth]
    simp [hn, show n < 16 by omega]
  rw [writeFieldMasked, writeFieldWord, hmask, Field.clkDiv, BitVec.shiftLeft_zero, regWriteMasked, whenIdle_idle hidle,
    writtenClkcfg, maskHalf_mw, valueHalf_mw, hmerge]

/-- `SET_CLOCK` with the mutex free (R401). -/
theorem exec_setClock (hidle : s.bus.phase = .idle) (hfree : s.host.lock = .free) (rate : Word) :
    exec (.setClock rate) s = .next ((s.setReg { s.reg with clkDiv := s.cfg.clkDivOf s.host.srcClk rate }).setHost
      (clockedHost s.cfg rate s.host)) := by
  change execSetClock rate s = _
  rw [execSetClock, whenUnlocked_free hfree, writeFieldMasked_clkDiv hidle]
  rfl

/-- The delays to be programmed stand in the five lanes (R402). -/
theorem programmedTiming_and_0x7FFF (s : State) : programmedTiming s &&& 0x7FFF#16 = programmedTiming s := by
  unfold programmedTiming
  split_ifs
  · exact tuningValue_and_0x7FFF _
  · exact timingValue_and_0x7FFF ..

/-- `TIMING_PROGRAM` merges those delays into `TIMING` (R402). -/
theorem programTiming_idle (hidle : s.bus.phase = .idle) :
    programTiming s = .next ((s.setReg { s.reg with
      timing := mergeHalf s.reg.timing 0x7FFF#16 (programmedTiming s) (timingWritable s.cfg) }).setHost
        (timedHost s.host)) := by
  rw [programTiming, regWriteMasked_timing hidle (programmedTiming_and_0x7FFF s)]
  rfl

/-- `SET_TIMING_MODE` with the mutex free programs the delays of the new mode (R402). -/
theorem exec_setTimingMode (hfree : s.host.lock = .free) (mode : Byte) (ddr : Bool) :
    exec (.setTimingMode mode ddr) s = programTiming (s.setHost { s.host with timingMode := mode, ddr := ddr }) :=
  whenUnlocked_free hfree

end idle

/-- Settles O52: the writes of `CLKCFG` and `TIMING`, the plain Host fields, the held mutex, and the two answers of the
platform. -/
theorem entryPointsSetTheHost : Obligations.EntryPointsSetTheHost := by
  refine ⟨fun s rate mode x ddr => ⟨fun hidle => ?_, fun hfree => ⟨?_, ?_⟩, fun i hi hheld => ?_⟩,
    fun s v => ⟨Config.freeBool s.draws, Config.freeBool s.draws, rfl, rfl⟩⟩
  · intro delays program
    refine ⟨programTiming_idle hidle, fun hfree => ⟨exec_setClock hidle hfree rate, ?_⟩⟩
    exact (exec_setTimingMode hfree mode ddr).trans (programTiming_idle hidle)
  · exact whenUnlocked_free hfree
  · exact whenUnlocked_free hfree
  · rcases hi with rfl | rfl | rfl | rfl <;> exact whenUnlocked_held hheld

/-! ### `ATTACH` and `DETACH` (R407, R408) -/

/-- The bases that `ATTACH` takes are the multiples of 4 (00_scope.md R7). -/
theorem aligned_iff (base : Word) : base.extractLsb' 0 2 = 0#2 ↔ base.toNat % 4 = 0 := by
  rw [← BitVec.toNat_inj, BitVec.extractLsb'_toNat]
  rfl

/-- No request is outstanding: the machine is idle and the mutex free. -/
theorem quiescent_iff (s : State) : quiescent s = true ↔ s.host.tc = .idle ∧ s.host.lock = .free := by
  simp only [quiescent, Bool.and_eq_true, beq_iff_eq]

section attach
variable {s : State} {base clk : Word}

theorem exec_attach_refused (h : ¬ quiescent s = true) : exec (.attach base clk) s = .refused .requestOutstanding :=
  if_pos h

theorem exec_attach_unaligned (h : quiescent s = true) (hbase : base.extractLsb' 0 2 ≠ 0#2) :
    exec (.attach base clk) s = .refused .illegalBase :=
  (if_neg (not_not.2 h)).trans (if_pos hbase)

/-- An `ATTACH` that can start asks for the resources of the platform. -/
theorem exec_attach (h : quiescent s = true) (hbase : base.extractLsb' 0 2 = 0#2) :
    exec (.attach base clk) s =
      if s.plat.available then
        .next ((attached base clk s).setReg { RegBlock.reset with cardEn := true })
      else .next (attachFailed s) :=
  (if_neg (not_not.2 h)).trans (if_neg (not_not.2 hbase))

theorem exec_detach (h : quiescent s = true) :
    exec .detach s = .next (detached (s.setReg { s.reg with cmpEn := false, cardEn := false })) := if_pos h

theorem exec_detach_refused (h : ¬ quiescent s = true) : exec .detach s = .refused .requestOutstanding := if_neg h

end attach

/-- Settles O53: both ask for a machine at rest; `ATTACH` then asks for an aligned base and for the resources. -/
theorem attachAndDetach : Obligations.AttachAndDetach := by
  refine fun s base clk => ⟨fun htc hfree => ?_, fun h => ?_⟩
  · have hquiet : quiescent s = true := (quiescent_iff s).2 ⟨htc, hfree⟩
    simp only [← aligned_iff, ne_eq]
    refine ⟨fun hbase havail => ?_, fun hbase hmissing => ?_, exec_attach_unaligned hquiet,
      _, exec_detach hquiet, rfl, rfl, rfl, rfl, rfl, rfl, rfl, rfl⟩
    · rw [exec_attach hquiet hbase, if_pos havail]
      simp only [attached, havail]
      rfl
    · rw [exec_attach hquiet hbase, if_neg (by simp [hmissing])]
      rfl
  · have hbusy : ¬ quiescent s = true := by
      rw [quiescent_iff]
      rintro ⟨htc, hfree⟩
      rcases h with h | h
      · exact h htc
      · simp [hfree] at h
    exact ⟨exec_attach_refused hbusy, exec_detach_refused hbusy⟩

end Sys2Proof.Machine
end

section
/-! PROOFS. The statements of 49_host_and_bus_interfaces.md about the bus engine: the trigger, the response, the data
phase each way, and the end of a transaction. -/

namespace Sys2Proof.Machine

/-! ### The steps behind the trigger, by their meanings -/

section meanings
variable (s : State)

theorem exec_bRsp (a : RspAnswer) : exec (.bRsp a) s = execBRsp a s := rfl

theorem exec_bDataDma (a : DmaAnswer) : exec (.bDataDma a) s = execBDataDma a s := rfl

theorem exec_bDataPio (a : PioAnswer) : exec (.bDataPio a) s = execBDataPio a s := rfl

theorem exec_bEnd (a : EndAnswer) : exec (.bEnd a) s = execBEnd a s := rfl

end meanings

/-! ### The transaction in flight (49_host_and_bus_interfaces.md R420, R427) -/

/-- A busy engine works on what it latched. -/
theorem inFlight_busy {s : State} {l : Latched} (hbusy : s.bus.phase = .busy) (hlatched : s.bus.latched = some l) :
    inFlight s = some l := by
  rw [inFlight, hbusy, hlatched]

theorem inFlight_idle {s : State} (hidle : s.bus.phase = .idle) : inFlight s = none := by rw [inFlight, hidle]

/-- A response phase that has not failed is waiting or done. -/
theorem responseOk_iff (p : RspPhase) : responseOk p = true ↔ p = .waiting ∨ p = .done := by
  simp only [responseOk, Bool.or_eq_true, beq_iff_eq]

/-- The reserved transfer mode of a data transaction (R420). -/
theorem reservedMode_iff (config : Half) :
    reservedMode config = true ↔ config.getLsbD 3 = true ∧ config.extractLsb' 5 2 = 0b11#2 := by
  rw [reservedMode, Bool.and_eq_true, beq_iff_eq]
  rfl

section dataPhase
variable {config : Half}

theorem cfgDataPhase_rd (hdata : config.getLsbD 3 = true) (hmode : config.extractLsb' 5 2 = 0b10#2) :
    cfgDataPhase config = some .rd := by
  simp [cfgDataPhase, cfgAutoRsp, cfgTransMode, hdata, hmode]

theorem cfgDataPhase_wr (hdata : config.getLsbD 3 = true) (hmode : config.extractLsb' 5 2 = 0b01#2) :
    cfgDataPhase config = some .wr := by
  simp [cfgDataPhase, cfgAutoRsp, cfgTransMode, hdata, hmode]

theorem cfgDataPhase_none (h : config.getLsbD 3 = false ∨ config.extractLsb' 5 2 = 0b00#2) :
    cfgDataPhase config = none := by
  rw [cfgDataPhase, cfgAutoRsp, cfgTransMode]
  rcases h with h | h <;> rw [h]
  · rfl
  · split_ifs <;> trivial

end dataPhase

/-! ### The trigger (R420, R431) -/

/-- Settles O54: the two tests of the trigger, in their order, and `triggered` written out. -/
theorem triggerLatchesAndSends : Obligations.TriggerLatchesAndSends := by
  intro s hidle
  have htrigger : exec .bTrigger s = _ := whenIdle_idle hidle
  refine ⟨fun hsettled hmode => ?_, fun hearly => ?_, fun hsettled hdata hmode => ?_⟩
  · rw [← reservedMode_iff, Bool.not_eq_true] at hmode
    exact trigger_eq_next.2 ⟨hidle, hsettled, hmode, rfl⟩
  · rw [htrigger, if_pos hearly]
  · rw [htrigger, if_neg (Nat.not_lt.2 hsettled), if_pos ((reservedMode_iff _).2 ⟨hdata, hmode⟩)]

/-! ### The response (R421, 42_response_decoder.md R206) -/

section response
variable {s : State} {l : Latched} {bs : List Byte} {ok : Bool}

/-- What has been captured fills the empty window, and the bytes behind it stay in the stream. -/
theorem captureResponse_empty (hempty : s.reg.rspBufFull = false) (w0 w1 w2 w3 w4 w5 : Byte) (rest : List Byte) :
    captureResponse l (w0 :: w1 :: w2 :: w3 :: w4 :: w5 :: rest) ok s =
      (s.setReg { s.reg with rspHi := w0 ++ w1 ++ w2 ++ w3, rspLo := w4 ++ w5, rspBufFull := true }).setBus
        { s.bus with rspStream := rest, rspPhase := if ok || !checksCrc7 l.config then .done else .badCrc } := by
  rw [captureResponse, refillWindow]
  exact if_neg (Bool.eq_false_iff.1 hempty)

theorem exec_bRsp_notDue (hfl : inFlight s = some l) (h : s.bus.rspPhase ≠ .waiting) (a : RspAnswer) :
    exec (.bRsp a) s = .next s := by
  rw [exec_bRsp, execBRsp, hfl]
  exact if_pos h

section due
variable (hfl : inFlight s = some l) (h : s.bus.rspPhase = .waiting)
include hfl h

theorem exec_bRsp_nothing : exec (.bRsp .nothing) s = .next (s.setBus { s.bus with rspPhase := .timedOut }) := by
  rw [exec_bRsp, execBRsp, hfl]
  exact if_neg (not_not.2 h)

/-- Where a 48-bit response is expected, six bytes are one. -/
theorem exec_bRsp_short (hlen : l.config.getLsbD 1 = false) :
    exec (.bRsp (.bytes bs ok)) s =
      if bs.length = 6 then .next (captureResponse l bs ok s) else .fault .busContract := by
  rw [exec_bRsp, execBRsp, hfl]
  exact (if_neg (not_not.2 h)).trans (if_neg (Bool.eq_false_iff.1 hlen))

/-- Where a 136-bit response is expected, seventeen bytes are one, and a pad byte follows them. -/
theorem exec_bRsp_long (hlen : l.config.getLsbD 1 = true) :
    exec (.bRsp (.bytes bs ok)) s =
      if bs.length = 17 then
        .next ((captureResponse l (bs ++ [Config.freeByte s.draws]) ok s).setDraws (s.draws + 1))
      else .fault .busContract := by
  rw [exec_bRsp, execBRsp, hfl]
  exact (if_neg (not_not.2 h)).trans (if_pos hlen)

end due

/-- The CRC7 that the engine checks: that of a 48-bit response, where the check is enabled. -/
theorem checksCrc7_short {config : Half} (hlen : config.getLsbD 1 = false) :
    checksCrc7 config = config.getLsbD 2 := by
  rw [checksCrc7, cfgRspLen, hlen, cfgCrc7En, Bool.not_false, Bool.and_true]

theorem checksCrc7_long {config : Half} (hlen : config.getLsbD 1 = true) : checksCrc7 config = false := by
  rw [checksCrc7, cfgRspLen, hlen, Bool.not_true, Bool.and_false]

end response

/-- Settles O55: the window takes six bytes of either length; only a 48-bit response is checked. -/
theorem responseFillsTheWindow : Obligations.ResponseFillsTheWindow := by
  intro s l ok bs hbusy hlatched
  have hfl := inFlight_busy hbusy hlatched
  refine ⟨fun h => exec_bRsp_notDue hfl h _, fun h => ⟨exec_bRsp_nothing hfl h, fun hlen hempty w0 w1 w2 w3 w4 w5 => ?_,
    fun hlen hempty w0 w1 w2 w3 w4 w5 rest hrest => ⟨Config.freeByte s.draws, ?_⟩, fun hother => ?_⟩⟩
  · rw [exec_bRsp_short hfl h hlen, ← checksCrc7_short hlen]
    exact congrArg _ (captureResponse_empty hempty ..)
  · rw [exec_bRsp_long hfl h hlen, if_pos (by simp [hrest])]
    simp only [List.cons_append, captureResponse_empty hempty, checksCrc7_long hlen, Bool.not_false, Bool.or_true]
    rfl
  · cases hlen : l.config.getLsbD 1 with
    | false =>
      rw [hlen] at hother
      exact (exec_bRsp_short hfl h hlen).trans (if_neg hother)
    | true =>
      rw [hlen] at hother
      exact (exec_bRsp_long hfl h hlen).trans (if_neg hother)

/-! ### One byte of the DMA walk (R425) -/

section walk
variable {s : State}

/-- The slot of the walk gives an address: it exists, it is not empty, and the byte lies in the address space (R425). -/
def WalkLegal (s : State) : Prop :=
  s.bus.dmaSlot < s.cfg.maxSeg ∧ (s.reg.slot s.bus.dmaSlot).sectors ≠ 0#16 ∧
    (s.reg.slot s.bus.dmaSlot).addr.toNat + s.bus.dmaOff < 2 ^ s.cfg.addrW

theorem slotAt_mapped {k : Nat} (h : k < s.cfg.maxSeg) : slotAt s k = some (s.reg.slot k) :=
  if_pos (decide_eq_true h)

theorem dmaAddress_eq_some {a : Nat} :
    dmaAddress s = some a ↔ WalkLegal s ∧ a = (s.reg.slot s.bus.dmaSlot).addr.toNat + s.bus.dmaOff := by
  have hzero (x : Half) : x.toNat = 0 ↔ x = 0#16 := BitVec.toNat_inj (y := 0#16)
  rw [WalkLegal]
  by_cases hk : s.bus.dmaSlot < s.cfg.maxSeg
  · simp only [dmaAddress, slotAt_mapped hk, hzero]
    split_ifs with hempty hfits
    · simp [hempty]
    · simpa [hk, hempty, hfits] using eq_comm
    · simp [hfits]
  · simp [dmaAddress, slotAt, slotMapped, hk]

theorem dmaAddress_illegal (h : ¬ WalkLegal s) : dmaAddress s = none := by
  rw [Option.eq_none_iff_forall_ne_some]
  exact fun a ha => h (dmaAddress_eq_some.1 ha).1

/-- The address of the walk's byte (R425). -/
def walkAddress (s : State) : Nat := (s.reg.slot s.bus.dmaSlot).addr.toNat + s.bus.dmaOff

/-- The position behind the byte of the walk (R425). -/
def nextPosition (s : State) : Nat × Nat :=
  if s.bus.dmaOff + 1 = (s.reg.slot s.bus.dmaSlot).sectors.toNat * s.cfg.sectorSize then (s.bus.dmaSlot + 1, 0)
  else (s.bus.dmaSlot, s.bus.dmaOff + 1)

/-- The engine behind the byte of the walk: the position moves, and the byte counts. -/
def walkedBus (s : State) : BusEngine :=
  { s.bus with dmaSlot := (nextPosition s).1, dmaOff := (nextPosition s).2, moved := s.bus.moved + 1 }

/-- The state behind a byte that a read stores. -/
def storedByte (y : Byte) (s : State) : State :=
  (s.setDmaMem (s.dmaMem.write (walkAddress s) y)).setBus
    { walkedBus s with arrived := max s.bus.arrived (s.bus.moved + 1) }

/-- The state behind a byte that a write sends. -/
def sentByte (s : State) : State :=
  s.setBus { walkedBus s with sent := s.bus.sent ++ [s.dmaMem.read (walkAddress s)] }

theorem countByte_mapped (h : s.bus.dmaSlot < s.cfg.maxSeg) : countByte s = s.setBus (walkedBus s) := by
  rw [countByte, slotAt_mapped h, walkedBus, nextPosition]
  simp only [advancePosition]
  split_ifs <;> rfl

theorem dmaAddress_legal (h : WalkLegal s) : dmaAddress s = some (walkAddress s) := dmaAddress_eq_some.2 ⟨h, rfl⟩

theorem dmaStore_legal (h : WalkLegal s) (y : Byte) (ys : List Byte) :
    dmaStore (y :: ys) s = dmaStore ys (storedByte y s) := by
  rw [dmaStore, dmaAddress_legal h]
  exact congrArg (dmaStore ys) (countByte_mapped (s := noteArrival _) h.1)

theorem dmaStore_illegal (h : ¬ WalkLegal s) (y : Byte) (ys : List Byte) :
    dmaStore (y :: ys) s = .refused .slotWalk := by
  rw [dmaStore, dmaAddress_illegal h]

theorem dmaLoad_legal (h : WalkLegal s) (n : Nat) : dmaLoad (n + 1) s = dmaLoad n (sentByte s) := by
  rw [dmaLoad, dmaAddress_legal h]
  exact congrArg (dmaLoad n) (countByte_mapped (s := s.setBus _) h.1)

theorem dmaLoad_illegal (h : ¬ WalkLegal s) (n : Nat) : dmaLoad (n + 1) s = .refused .slotWalk := by
  rw [dmaLoad, dmaAddress_illegal h]

end walk

/-! ### The DMA data phase (R424) -/

section dma
variable {s t : State} {l : Latched}

/-- A data phase that is due, on a transaction in which nothing has failed, can take a step (R424, R427). -/
theorem dataEnabled_due {d : Dir} {pio : Bool} (hphase : cfgDataPhase l.config = some d)
    (hpio : l.config.getLsbD 8 = pio) (hrsp : s.bus.rspPhase = .waiting ∨ s.bus.rspPhase = .done)
    (hok : s.bus.dataFailed = false) : dataEnabled l pio s = true := by
  rw [dataEnabled, hphase, cfgPioEn, hpio, (responseOk_iff _).2 hrsp, hok]
  cases pio <;> rfl

/-- `B_DATA_DMA` steps: its phase is enabled, and the direction bit agrees with the transfer mode (R424). -/
def DmaDue (l : Latched) (s : State) : Prop :=
  inFlight s = some l ∧ dataEnabled l false s = true ∧ cfgDmaSel l.config = (cfgDataPhase l.config == some .rd)

theorem exec_bDataDma_due (h : DmaDue l s) (a : DmaAnswer) : exec (.bDataDma a) s = dmaStep l a s := by
  obtain ⟨hfl, henabled, hsel⟩ := h
  rw [exec_bDataDma, execBDataDma, hfl]
  exact (if_neg (not_not.2 henabled)).trans (if_neg (not_not.2 hsel))

theorem exec_bDataDma_mismatch (hfl : inFlight s = some l) (henabled : dataEnabled l false s = true)
    (hsel : cfgDmaSel l.config ≠ (cfgDataPhase l.config == some .rd)) (a : DmaAnswer) :
    exec (.bDataDma a) s = .refused .dmaSelMismatch := by
  rw [exec_bDataDma, execBDataDma, hfl]
  exact (if_neg (not_not.2 henabled)).trans (if_pos hsel)

/-- Whatever the answer is, `B_DATA_DMA` is not taken, or refused, or steps. -/
theorem exec_bDataDma_cases (s : State) :
    (∀ a, exec (.bDataDma a) s = .next s) ∨ (∀ a, exec (.bDataDma a) s = .refused .dmaSelMismatch) ∨
      ∃ l, DmaDue l s := by
  cases hfl : inFlight s with
  | none =>
    refine .inl fun a => ?_
    rw [exec_bDataDma, execBDataDma, hfl]
  | some l =>
    by_cases henabled : dataEnabled l false s = true
    · by_cases hsel : cfgDmaSel l.config = (cfgDataPhase l.config == some .rd)
      · exact .inr (.inr ⟨l, hfl, henabled, hsel⟩)
      · exact .inr (.inl (exec_bDataDma_mismatch hfl henabled hsel))
    · refine .inl fun a => ?_
      rw [exec_bDataDma, execBDataDma, hfl]
      exact if_pos henabled

/-- A byte that moves leaves the phase enabled. -/
theorem DmaDue.storedByte (h : DmaDue l s) (y : Byte) : DmaDue l (storedByte y s) := h

theorem DmaDue.sentByte (h : DmaDue l s) : DmaDue l (sentByte s) := h

/-- In a read, bytes that the transfer has left are stored. -/
theorem dmaStep_read (hphase : cfgDataPhase l.config = some .rd) (bs : List Byte) : dmaStep l (.read bs) s =
    if bs ≠ [] ∧ s.bus.moved + bs.length ≤ transferBytes l then dmaStore bs s else .fault .busContract := by
  unfold dmaStep
  rw [hphase]

/-- In a write, bytes that the transfer has left are sent. -/
theorem dmaStep_take (hphase : cfgDataPhase l.config = some .wr) (n : Nat) : dmaStep l (.take n) s =
    if 0 < n ∧ s.bus.moved + n ≤ transferBytes l then dmaLoad n s else .fault .busContract := by
  unfold dmaStep
  rw [hphase]

/-- A read step that answers is one of a read, with bytes that the transfer has left. -/
theorem dmaStep_read_eq_next {bs : List Byte} : dmaStep l (.read bs) s = .next t ↔
    cfgDataPhase l.config = some .rd ∧ (bs ≠ [] ∧ s.bus.moved + bs.length ≤ transferBytes l) ∧
      dmaStore bs s = .next t := by
  by_cases hphase : cfgDataPhase l.config = some .rd
  · rw [dmaStep_read hphase]
    split_ifs with hbytes <;> simp [hphase, hbytes]
  · simp only [hphase, false_and, iff_false]
    unfold dmaStep
    split <;> simp_all

/-- A take that answers is one of a write, with bytes that the transfer has left. -/
theorem dmaStep_take_eq_next {n : Nat} : dmaStep l (.take n) s = .next t ↔
    cfgDataPhase l.config = some .wr ∧ (0 < n ∧ s.bus.moved + n ≤ transferBytes l) ∧ dmaLoad n s = .next t := by
  by_cases hphase : cfgDataPhase l.config = some .wr
  · rw [dmaStep_take hphase]
    split_ifs with hbytes <;> simp [hphase, hbytes]
  · simp only [hphase, false_and, iff_false]
    unfold dmaStep
    split <;> simp_all

/-- The bytes of one answer can be had with two answers, when a due step can be cut in two. -/
theorem exec_bDataDma_in_two {a a₁ a₂ : DmaAnswer} (h : exec (.bDataDma a) s = .next t)
    (hcut : ∀ l, DmaDue l s → dmaStep l a s = .next t →
      ∃ u, DmaDue l u ∧ dmaStep l a₁ s = .next u ∧ dmaStep l a₂ u = .next t) :
    ∃ u, exec (.bDataDma a₁) s = .next u ∧ exec (.bDataDma a₂) u = .next t := by
  rcases exec_bDataDma_cases s with hpass | hmismatch | ⟨l, hdue⟩
  · exact ⟨s, hpass _, (hpass _).trans ((hpass _).symm.trans h)⟩
  · cases (hmismatch _).symm.trans h
  · obtain ⟨u, hu, hfirst, hrest⟩ := hcut l hdue ((exec_bDataDma_due hdue a).symm.trans h)
    exact ⟨u, (exec_bDataDma_due hdue a₁).trans hfirst, (exec_bDataDma_due hu a₂).trans hrest⟩

/-- A read of several bytes is the read of the first, and then that of the others. -/
theorem dmaStep_read_cons {y : Byte} {ys : List Byte} (hys : ys ≠ []) (hdue : DmaDue l s)
    (h : dmaStep l (.read (y :: ys)) s = .next t) :
    ∃ u, DmaDue l u ∧ dmaStep l (.read [y]) s = .next u ∧ dmaStep l (.read ys) u = .next t := by
  obtain ⟨hphase, ⟨-, hleft⟩, hstore⟩ := dmaStep_read_eq_next.1 h
  rw [List.length_cons] at hleft
  by_cases hlegal : WalkLegal s
  · rw [dmaStore_legal hlegal] at hstore
    have hfirst : s.bus.moved + [y].length ≤ transferBytes l := by rw [List.length_singleton]; omega
    have hrest : s.bus.moved + 1 + ys.length ≤ transferBytes l := by omega
    exact ⟨storedByte y s, hdue.storedByte y,
      dmaStep_read_eq_next.2 ⟨hphase, ⟨List.cons_ne_nil _ _, hfirst⟩, dmaStore_legal hlegal y []⟩,
      dmaStep_read_eq_next.2 ⟨hphase, ⟨hys, hrest⟩, hstore⟩⟩
  · cases (dmaStore_illegal hlegal y ys).symm.trans hstore

/-- A take of several bytes is the take of one, and then that of the others. -/
theorem dmaStep_take_succ {n : Nat} (hn : 0 < n) (hdue : DmaDue l s) (h : dmaStep l (.take (n + 1)) s = .next t) :
    ∃ u, DmaDue l u ∧ dmaStep l (.take 1) s = .next u ∧ dmaStep l (.take n) u = .next t := by
  obtain ⟨hphase, ⟨-, hleft⟩, hload⟩ := dmaStep_take_eq_next.1 h
  by_cases hlegal : WalkLegal s
  · rw [dmaLoad_legal hlegal] at hload
    have hfirst : s.bus.moved + 1 ≤ transferBytes l := by omega
    have hrest : s.bus.moved + 1 + n ≤ transferBytes l := by omega
    exact ⟨sentByte s, hdue.sentByte,
      dmaStep_take_eq_next.2 ⟨hphase, ⟨Nat.one_pos, hfirst⟩, dmaLoad_legal hlegal 0⟩,
      dmaStep_take_eq_next.2 ⟨hphase, ⟨hn, hrest⟩, hload⟩⟩
  · cases (dmaLoad_illegal hlegal n).symm.trans hload

/-- The read of one byte that the transfer has left is one byte of the walk. -/
theorem exec_dmaRead_one (hdue : DmaDue l s) (hphase : cfgDataPhase l.config = some .rd)
    (hleft : s.bus.moved < transferBytes l) (y : Byte) : exec (.bDataDma (.read [y])) s = dmaStore [y] s := by
  rw [exec_bDataDma_due hdue, dmaStep_read hphase]
  exact if_pos ⟨List.cons_ne_nil _ _, hleft⟩

/-- The take of one byte that the transfer has left is one byte of the walk. -/
theorem exec_dmaTake_one (hdue : DmaDue l s) (hphase : cfgDataPhase l.config = some .wr)
    (hleft : s.bus.moved < transferBytes l) : exec (.bDataDma (.take 1)) s = dmaLoad 1 s := by
  rw [exec_bDataDma_due hdue, dmaStep_take hphase]
  exact if_pos ⟨by decide, hleft⟩

end dma

/-- Settles O56: one byte each way at the walk's address, and the bytes of one answer one after another. -/
theorem dmaBytesMoveAtTheWalk : Obligations.DmaBytesMoveAtTheWalk := by
  refine ⟨?_, fun s t y ys hys _ h => exec_bDataDma_in_two h fun l => dmaStep_read_cons hys,
    fun s t n hn h => exec_bDataDma_in_two h fun l => dmaStep_take_succ hn⟩
  rintro s l k y ⟨hmem, -⟩ hbusy hlatched hok hrsp hdata hpio rfl hleft
  have hfl := inFlight_busy hbusy hlatched
  intro g a next bus legal
  refine ⟨fun hmode => ?_, fun hmode => ?_⟩
  · have hphase := cfgDataPhase_rd hdata hmode
    have henabled := dataEnabled_due hphase hpio hrsp hok
    have hdue (hsel : l.config.getLsbD 7 = true) : DmaDue l s := ⟨hfl, henabled, by rw [hphase]; exact hsel⟩
    refine ⟨fun hsel hlegal => ⟨s.dmaMem.write a y, ?_, Memory.read_write_same hmem .., fun b hb =>
      Memory.read_write_other hmem y hb⟩, fun hsel hillegal => ?_, fun hsel => ?_⟩
    · exact (exec_dmaRead_one (hdue hsel) hphase hleft y).trans (dmaStore_legal hlegal y [])
    · exact (exec_dmaRead_one (hdue hsel) hphase hleft y).trans (dmaStore_illegal hillegal y [])
    · exact exec_bDataDma_mismatch hfl henabled (by rw [hphase, cfgDmaSel, hsel]; decide) _
  · have hphase := cfgDataPhase_wr hdata hmode
    have henabled := dataEnabled_due hphase hpio hrsp hok
    have hdue (hsel : l.config.getLsbD 7 = false) : DmaDue l s := ⟨hfl, henabled, by rw [hphase]; exact hsel⟩
    refine ⟨fun hsel hlegal => ?_, fun hsel hillegal => ?_, fun hsel => ?_⟩
    · exact (exec_dmaTake_one (hdue hsel) hphase hleft).trans (dmaLoad_legal hlegal 0)
    · exact (exec_dmaTake_one (hdue hsel) hphase hleft).trans (dmaLoad_illegal hillegal 0)
    · exact exec_bDataDma_mismatch hfl henabled (by rw [hphase, cfgDmaSel, hsel]; decide) _

/-! ### A word of the PIO data phase (R423) -/

section pio
variable {s : State} {l : Latched}

theorem exec_bDataPio_due (hfl : inFlight s = some l) (henabled : dataEnabled l true s = true) (a : PioAnswer) :
    exec (.bDataPio a) s = pioStep l a s := by
  rw [exec_bDataPio, execBDataPio, hfl]
  exact if_pos henabled

/-- In a read, the next word stands at `DATA_RX` once the one before it has been read. -/
theorem pioStep_read (hphase : cfgDataPhase l.config = some .rd) (y0 y1 y2 y3 : Byte) :
    pioStep l (.read y0 y1 y2 y3) s =
      if s.bus.moved < transferBytes l ∧ s.reg.rxBufFull = false then .next (presentWord y0 y1 y2 y3 s)
      else .next s := by
  unfold pioStep
  rw [hphase]

/-- In a write, the word that was pushed is taken. -/
theorem pioStep_take {w : Word} {rest : List Word} (hphase : cfgDataPhase l.config = some .wr)
    (hfull : s.reg.txBufEmpty = false) (hfifo : s.bus.txFifo = w :: rest) :
    pioStep l .take s = .next (takeWord w rest s) := by
  unfold pioStep
  rw [hphase, hfull, hfifo]

theorem pioStep_fail {d : Dir} (hphase : cfgDataPhase l.config = some d) : pioStep l .fail s = .next (failData s) := by
  unfold pioStep
  rw [hphase]

end pio

/-- The bytes of a word, bits 7:0 first (20_memory.md R82). -/
theorem bytesOfWord_append (b0 b1 b2 b3 : Byte) : bytesOfWord (b3 ++ b2 ++ b1 ++ b0) = [b0, b1, b2, b3] := by
  obtain ⟨h0, h1, h2, h3⟩ := byteOfWord_append b0 b1 b2 b3
  rw [bytesOfWord, h0, h1, h2, h3]

/-- Settles O57: a word at `DATA_RX`, a word from `DATA_TX`, and the failure of either direction. -/
theorem pioWordPassesTheEngine : Obligations.PioWordPassesTheEngine := by
  intro s l hbusy hlatched hok hrsp hdata hpio
  have hfl := inFlight_busy hbusy hlatched
  have hexec {d : Dir} (hphase : cfgDataPhase l.config = some d) (a : PioAnswer) :
      exec (.bDataPio a) s = pioStep l a s :=
    exec_bDataPio_due hfl (dataEnabled_due hphase hpio hrsp hok) a
  refine ⟨fun y0 y1 y2 y3 hmode => ?_, fun b0 b1 b2 b3 rest hmode hfull hfifo => ?_, fun hmode => ?_⟩
  · have hphase := cfgDataPhase_rd hdata hmode
    rw [hexec hphase, pioStep_read hphase]
    exact ⟨fun hleft hempty => if_pos ⟨hleft, hempty⟩, fun hfull => if_neg (by simp [hfull])⟩
  · have hphase := cfgDataPhase_wr hdata hmode
    rw [hexec hphase, pioStep_take hphase hfull hfifo, takeWord, bytesOfWord_append]
  · obtain ⟨d, hphase⟩ : ∃ d, cfgDataPhase l.config = some d :=
      hmode.elim (fun h => ⟨_, cfgDataPhase_rd hdata h⟩) fun h => ⟨_, cfgDataPhase_wr hdata h⟩
    exact (hexec hphase .fail).trans (pioStep_fail hphase)

/-! ### The end of a transaction (R427 to R429) -/

section finish
variable {s : State} {l : Latched}

/-- No data phase, or one whose bytes have all passed and been read, is complete. -/
theorem dataComplete_of_over (h : l.config.getLsbD 3 = false ∨ l.config.extractLsb' 5 2 = 0b00#2 ∨
    (s.bus.dataFailed = false ∧ transferBytes l ≤ s.bus.moved ∧ s.reg.rxBufFull = false)) :
    dataComplete l s = true := by
  rw [dataComplete]
  cases hphase : cfgDataPhase l.config with
  | none => rfl
  | some d =>
    rcases h with hno | hno | ⟨hok, hall, hread⟩
    · rw [cfgDataPhase_none (.inl hno)] at hphase; cases hphase
    · rw [cfgDataPhase_none (.inr hno)] at hphase; cases hphase
    · simp [hok, hall, hread]

/-- A data phase with bytes left is not complete. -/
theorem dataComplete_of_left (hphase : (cfgDataPhase l.config).isSome = true) (h : s.bus.moved < transferBytes l) :
    dataComplete l s = false := by
  obtain ⟨d, hd⟩ := Option.isSome_iff_exists.1 hphase
  rw [dataComplete, hd]
  simp [Nat.not_le.2 h]

theorem exec_bEnd_ok (hfl : inFlight s = some l) : exec (.bEnd .ok) s =
    if s.bus.rspPhase = .done ∧ dataComplete l s then .next (endWith (cleanEndReg s) s) else .next s := by
  rw [exec_bEnd, execBEnd, hfl]

/-- A clean end raises the completion interrupt exactly when it is enabled (R429). -/
theorem raisesCompletion_clean (c : Cfg) (cmpEn : Bool) : raisesCompletion c cmpEn true = cmpEn := Bool.and_true _

variable {e : BitVec 6} {token : BitVec 3} {fin : Bool}

theorem exec_bEnd_fault (hfl : inFlight s = some l)
    (h : ¬ endContract l.config s.bus.rspPhase s.bus.dataFailed e = true) :
    exec (.bEnd (.err e token fin)) s = .fault .busContract := by
  rw [exec_bEnd, execBEnd, hfl]
  exact if_pos h

theorem exec_bEnd_err (hfl : inFlight s = some l)
    (h : endContract l.config s.bus.rspPhase s.bus.dataFailed e = true) :
    exec (.bEnd (.err e token fin)) s =
      if errorEndEnabled l e s then .next (endWith (errorEndReg e token fin s) s) else .next s := by
  rw [exec_bEnd, execBEnd, hfl]
  exact if_neg (not_not.2 h)

theorem errorEndEnabled_iff : errorEndEnabled l e s = true ↔
    s.bus.rspPhase ≠ .done ∨ e &&& 0x3C#6 ≠ 0#6 ∨ dataComplete l s = true := by
  simp only [errorEndEnabled, Bool.or_eq_true, bne_iff_ne, or_assoc]

end finish

/-- The contract on the error set of an error end, condition by condition (R421, R427, R428, entry 18). -/
theorem endContract_iff {config : Half} {rsp : RspPhase} {dataFailed : Bool} {e : BitVec 6} :
    endContract config rsp dataFailed e = true ↔
      e ≠ 0#6 ∧ (e.getLsbD 0 = true → cfgRspEn config = true) ∧
      (e.getLsbD 1 = true → cfgRspEn config = true ∧ checksCrc7 config = true) ∧
      (e &&& 0x3C#6 = 0#6 ∨ ((cfgDataPhase config).isSome = true ∧ e &&& 0x03#6 = 0#6)) ∧
      (rsp = .timedOut → e.getLsbD 0 = true) ∧ (rsp = .badCrc → e.getLsbD 1 = true) ∧
      (rsp = .waiting → e &&& 0x03#6 = 0#6 ∨ e.getLsbD 0 = true) ∧
      (dataFailed = true → rsp = .timedOut ∨ rsp = .badCrc ∨ e &&& 0x3C#6 ≠ 0#6) := by
  simp only [endContract, Bool.and_eq_true, Bool.or_eq_true, bne_iff_ne, beq_iff_eq, Bool.not_eq_true',
    imp_iff_not_or, Bool.not_eq_true, and_assoc, or_assoc, ne_eq]

/-- Settles O58: both phases are complete, or the step is not taken. -/
theorem cleanEndFinishes : Obligations.CleanEndFinishes := by
  intro s l hbusy hlatched
  rw [exec_bEnd_ok (inFlight_busy hbusy hlatched)]
  refine ⟨fun hdone hover => ⟨endToken 0#6 0#3 s, ?_⟩, fun hopen => if_neg fun ⟨hdone, _⟩ => hopen hdone⟩
  rw [if_pos ⟨hdone, dataComplete_of_over hover⟩, cleanEndReg, raisesCompletion_clean]
  rfl

/-- Settles O59: the enabled end, the one that is not, and the sets that the contract excludes. -/
theorem errorEndSetsTheErrorState : Obligations.ErrorEndSetsTheErrorState := by
  intro s l e token fin hbusy hlatched
  have hfl := inFlight_busy hbusy hlatched
  refine ⟨fun hcontract hends => ⟨endToken e token s, ?_, fun htoken => if_pos htoken⟩,
    fun hcontract hdone hno hphase hleft => ?_, exec_bEnd_fault hfl ?_, fun hwait h0 h1 => exec_bEnd_fault hfl ?_,
    fun hrsp h0 => exec_bEnd_fault hfl ?_, fun hrsp h1 => exec_bEnd_fault hfl ?_⟩
  · have henabled : errorEndEnabled l e s = true :=
      errorEndEnabled_iff.2 (hends.imp_right (Or.imp_right dataComplete_of_over))
    rw [exec_bEnd_err hfl hcontract, if_pos henabled]
    rfl
  · have hdisabled : ¬ errorEndEnabled l e s = true := by
      simp [errorEndEnabled_iff, hdone, hno, dataComplete_of_left hphase hleft]
    rw [exec_bEnd_err hfl hcontract, if_neg hdisabled]
  all_goals rw [endContract_iff]
  · exact fun ⟨hne, _⟩ => hne rfl
  · rintro ⟨-, -, -, -, -, -, hnoRsp, -⟩
    rcases hnoRsp hwait with hzero | hbit
    · have hbit1 := congrArg (fun x : BitVec 6 => x.getLsbD 1) hzero
      rw [BitVec.getLsbD_and, h1] at hbit1
      cases hbit1
    · rw [h0] at hbit
      cases hbit
  · rintro ⟨-, hen, -⟩
    rw [cfgRspEn, hrsp] at hen
    cases hen h0
  · rintro ⟨-, -, hcrc, -⟩
    obtain ⟨hen, hchecks⟩ := hcrc h1
    rw [checksCrc7, Bool.and_eq_true, Bool.not_eq_true'] at hchecks
    obtain ⟨hcrcEn, hshort⟩ := hchecks
    rcases hrsp with h | h | h
    · cases h.symm.trans hen
    · cases h.symm.trans hcrcEn
    · cases h.symm.trans hshort

/-! ### The idle engine (R430, R432) -/

/-- Settles O60: no step behind the trigger finds a transaction in flight. -/
theorem idleEngineTakesNoStep : Obligations.IdleEngineTakesNoStep := by
  refine fun s => ⟨rfl, fun hidle i hi => ?_⟩
  have hfl := inFlight_idle hidle
  rcases hi with ⟨a, rfl⟩ | ⟨a, rfl⟩ | ⟨a, rfl⟩ | ⟨a, rfl⟩
  · rw [exec_bRsp, execBRsp, hfl]
  · rw [exec_bDataDma, execBDataDma, hfl]
  · rw [exec_bDataPio, execBDataPio, hfl]
  · rw [exec_bEnd, execBEnd, hfl]

end Sys2Proof.Machine
end
